-- ==== Sys2Proof/Word.lean ====
section
/-! DEFINITION. The plainest words of the QW824: bytes, Quay Clock times, masks, the numbers of slots, lanes, gangs and
gap sensor lines, and tables of a fixed number of like things. -/

namespace Sys2Proof

/-- One byte on a telegram link (R175). -/
abbrev Byte := BitVec 8

/-- A Quay Clock time: an unsigned 32-bit count of deciseconds that wraps (R4). -/
abbrev Time := BitVec 32

/-- A mask byte: bit `l` stands for lane or slot `l`, bit 0 the least significant (R180). -/
abbrev Mask := BitVec 8

/-- A crane slot 0 to 7, numbered west to east (R6). -/
abbrev Slot := Fin 8

/-- A truck lane 0 to 7 (R139). -/
abbrev Lane := Fin 8

/-- A lashing gang's id 0 to 7 (R81). -/
abbrev GangId := Fin 8

/-- A gap sensor line 0 to 6; line `k` lies between slots `k` and `k+1` (R53). -/
abbrev LineNo := Fin 7

/-- The level of a discrete field line (R53, R58). -/
inductive Level where
  | low
  | high
  deriving DecidableEq, Repr

/-- One of the eleven telegram links (00_scope.md, Table 0.1). -/
inductive PortId where
  | crane (c : Slot)
  | lane
  | gang
  | plan
  deriving DecidableEq, Repr

/-- The entry of a table at an index. -/
def entry {α : Type} {n : Nat} (v : Vector α n) (i : Fin n) : α := v[i]

/-- A table with one entry replaced. -/
def put {α : Type} {n : Nat} (v : Vector α n) (i : Fin n) (x : α) : Vector α n := v.set i.val x i.isLt

/-- The table of eight whose entries a function gives. -/
def table8 {α : Type} (f : Fin 8 → α) : Vector α 8 := #v[f 0, f 1, f 2, f 3, f 4, f 5, f 6, f 7]

/-- The table of seven whose entries a function gives. -/
def table7 {α : Type} (f : Fin 7 → α) : Vector α 7 := #v[f 0, f 1, f 2, f 3, f 4, f 5, f 6]

/-- The eight indices in ascending order. -/
def all8 : List (Fin 8) := [0, 1, 2, 3, 4, 5, 6, 7]

/-- The seven line numbers in ascending order. -/
def all7 : List (Fin 7) := [0, 1, 2, 3, 4, 5, 6]

end Sys2Proof
end

