-- ==== Sys2Proof/Syntax.lean ====
section
/-! DEFINITION. The commands of the QW824: one constructor of `Instr` for each row of spec/opcode_table.json, and the
operands each carries. Values that a telegram carries and that a rule checks stand here unchecked, as the numbers sent;
the meanings check them in the order their rules give. -/

namespace Sys2Proof

/-! ### Names that a CONFIG carries and the configuration holds (Tables 10.2, 10.3) -/

/-- Mode of a gap sensor line (Table 3.7). -/
inductive SensorMode where
  | disabled
  | rise
  | fall
  | both
  | high
  | low
  deriving DecidableEq, Repr

/-- Drive of the sixteen permit lines (R49). -/
inductive PermitDrive where
  | openDrain
  | pushPull
  deriving DecidableEq, Repr

/-- Take mode of a crane slot (R118). -/
inductive TakeMode where
  | inOrder
  | firstReady
  deriving DecidableEq, Repr

/-! ### Bodies of telegrams -/

/-- The body of a request: the fields its rule names, or a body that no rule of the request reads (its length differs
from the length its contents require, R177, or it holds a value whose only treatment is the BAD_VALUE of R3). -/
inductive Body (α : Type) where
  | fields (x : α)
  | malformed
  deriving DecidableEq, Repr

/-- JOIN page 0: declared slot, protocol revision, pages to follow, "more pages follow" (Table 2.5). -/
structure Page0 where
  slot : Nat
  revision : Nat
  follow : Nat
  more : Bool
  deriving DecidableEq, Repr

/-- The fields of JOIN page 1 (Table 2.5). -/
structure Page1 where
  westExtent : Nat
  eastExtent : Nat
  deceleration : Nat
  reactionTime : Nat
  maxSpeed : Nat
  deriving DecidableEq, Repr

/-- The fields of JOIN page 2 (Table 2.5). -/
structure Page2 where
  hoistSpeed : Nat
  trolleySpeed : Nat
  lockTime : Nat
  deriving DecidableEq, Repr

/-- The fields of JOIN page 3 (Table 2.5). -/
structure Page3 where
  laneMask : Mask
  laneOffsets : Vector Nat 8
  deriving DecidableEq, Repr

/-- The geometry of a crane: the fields of Table 2.2, grouped by the page that declares them. -/
structure Geometry where
  rail : Page1
  hoist : Page2
  lanes : Page3
  deriving DecidableEq, Repr

/-- A JOIN whose first body byte, the page number, is neither 0 nor 3. -/
inductive JoinMiddle where
  /-- page 1 with its "more pages follow" mark -/
  | page1 (more : Bool) (f : Page1)
  /-- page 2 with its "more pages follow" mark -/
  | page2 (more : Bool) (f : Page2)
  /-- a page number above 3 (R20) -/
  | above (page : Nat)
  /-- a wrong body length, with the page number of the first body byte (R177) -/
  | malformed (page : Nat)
  deriving DecidableEq, Repr

/-- A JOIN page 3: its "more pages follow" mark and its fields. -/
structure JoinLast where
  more : Bool
  lanes : Page3
  deriving DecidableEq, Repr

/-- A POSITION report (Table 11.5). -/
structure PositionReport where
  position : Nat
  velocity : Int
  deriving DecidableEq, Repr

/-- A PHASE telegram that names neither ALOFT nor LANDED: its phase value (Table 11.4) and tag. -/
structure PhaseReport where
  code : Nat
  tag : Nat
  deriving DecidableEq, Repr

/-- ARRIVE (Table 11.9). -/
structure ArriveReport where
  call : Nat
  slot : Nat
  lane : Nat
  truck : Nat
  deriving DecidableEq, Repr

/-- GONE (R151). -/
structure GoneReport where
  slot : Nat
  lane : Nat
  truck : Nat
  deriving DecidableEq, Repr

/-- CLEAR (R155). -/
structure StandRef where
  slot : Nat
  lane : Nat
  deriving DecidableEq, Repr

/-- SIGN_ON (R83). -/
structure SignOnReport where
  gang : Nat
  headcount : Nat
  deriving DecidableEq, Repr

/-- ENTER (R85); the task by its value in Table 11.4. -/
structure EnterRequest where
  gang : Nat
  section_ : Nat
  task : Nat
  deriving DecidableEq, Repr

/-- UNITS (R88). -/
structure UnitsReport where
  gang : Nat
  units : Nat
  deriving DecidableEq, Repr

/-- One item of a CONFIG list (R171). A value that is none of an enumerated item's names is `none`, and a name of
neither table is carried as the bytes sent for it, which the REFUSE names the item with (DESIGN CHOICE, log 31). -/
inductive ConfigItem where
  | fitted (mask : Nat)
  | park (slot : Nat) (value : Nat)
  | westLimit (value : Nat)
  | eastLimit (value : Nat)
  | clearance (value : Nat)
  | startMargin (value : Nat)
  | nearDistance (value : Nat)
  | hysteresis (value : Nat)
  | creepSpeed (value : Nat)
  | bayTolerance (value : Nat)
  | arriveTolerance (value : Nat)
  | exclusionRadius (value : Nat)
  | reportLimit (value : Nat)
  | linkSilence (value : Nat)
  | joinTimer (value : Nat)
  | sensorMode (line : Nat) (value : Option SensorMode)
  | haltPolarity (value : Option Level)
  | permitDrive (value : Option PermitDrive)
  | grace (value : Nat)
  | maxRecalls (value : Nat)
  | checkInterval (value : Nat)
  | takeMode (slot : Nat) (value : Option TakeMode)
  | lookahead (value : Nat)
  | alertMask (value : Nat)
  /-- an item name that is in neither table -/
  | unknown (name : List Byte)
  deriving DecidableEq, Repr

/-- What an OVERRIDE_GEOMETRY asks for a slot (R173). -/
inductive OverrideAsk where
  | remove
  | fields (g : Geometry)
  /-- a field set with a field missing -/
  | incomplete
  deriving DecidableEq, Repr

/-- OVERRIDE_GEOMETRY (R173). -/
structure OverrideRequest where
  slot : Nat
  ask : OverrideAsk
  deriving DecidableEq, Repr

/-- OPEN_BERTH: the fields of Table 1.4, the heading by its value in Table 11.4. -/
structure VesselRequest where
  reference : Nat
  heading : Nat
  pitch : Nat
  count : Nat
  trims : List Int
  rowZero : Nat
  rowPitch : Nat
  rowCount : Nat
  deriving DecidableEq, Repr

/-- SECTION_SET (R64); the hatch by its value in Table 11.4. -/
structure SectionRequest where
  index : Nat
  unlash : Nat
  lash : Nat
  tally : Nat
  hatch : Nat
  deriving DecidableEq, Repr

/-- A move record as supplied (Table 6.1), kind, level and group mark by their values in Table 11.4. -/
structure MoveRequest where
  tag : Nat
  kind : Nat
  level : Nat
  bay : Nat
  size : Nat
  mark : Nat
  row : Nat
  height : Nat
  laneMask : Mask
  lash : Nat
  deriving DecidableEq, Repr

/-- APPEND (R106). -/
structure AppendRequest where
  slot : Nat
  move : MoveRequest
  deriving DecidableEq, Repr

/-- INSERT (`tag` is the before tag, R107) and REPLACE (`tag` is the old tag, R109). -/
structure EditRequest where
  tag : Nat
  move : MoveRequest
  deriving DecidableEq, Repr

/-- READ_QUEUE (R112). -/
structure QueueRequest where
  slot : Nat
  index : Nat
  deriving DecidableEq, Repr

/-- The commands: one constructor for each row of spec/opcode_table.json, in the table's order. A telegram command is
the arrival of the whole telegram; one from a crane names the slot of its port. -/
inductive Instr where
  /-- POWER_ON, with the levels the input lines stand at as power-on completes (R168, R58) -/
  | powerOn (haltLine : Level) (sensors : Vector Level 7)
  /-- JOIN_PAGE_0 (R21) -/
  | joinPage0 (c : Slot) (b : Body Page0)
  /-- JOIN_PAGE_1_2 (R22), and a page number above 3 (R20) -/
  | joinPage12 (c : Slot) (b : JoinMiddle)
  /-- JOIN_PAGE_3 (R23) -/
  | joinPage3 (c : Slot) (b : Body JoinLast)
  /-- JOIN_TIMER_EXPIRY (R24) -/
  | joinTimerExpiry (c : Slot)
  /-- POSITION (R26) -/
  | position (c : Slot) (b : Body PositionReport)
  /-- REPORT_LIMIT_EXPIRY (R29) -/
  | reportLimitExpiry (c : Slot)
  /-- TRAVEL with its target (R43) -/
  | travel (c : Slot) (b : Body Nat)
  /-- TRAVEL_CANCEL (R45) -/
  | travelCancel (c : Slot) (b : Body Unit)
  /-- LEAVE (R30) -/
  | leave (c : Slot) (b : Body Unit)
  /-- TAKE (R119) -/
  | take (c : Slot) (b : Body Unit)
  /-- PHASE_LOCKED (R127), and a phase value that is none of the three (R125) -/
  | phaseLocked (c : Slot) (b : Body PhaseReport)
  /-- PHASE_ALOFT with its tag (R128) -/
  | phaseAloft (c : Slot) (b : Body Nat)
  /-- PHASE_LANDED with its tag (R130) -/
  | phaseLanded (c : Slot) (b : Body Nat)
  /-- ABANDON with its tag (R132) -/
  | abandon (c : Slot) (b : Body Nat)
  /-- SET_BACK with its tag (R133) -/
  | setBack (c : Slot) (b : Body Nat)
  /-- LANES with its lane mask (R141) -/
  | lanes (b : Body Mask)
  /-- ARRIVE (R147) -/
  | arrive (b : Body ArriveReport)
  /-- GONE (R151) -/
  | gone (b : Body GoneReport)
  /-- CLEAR (R155) -/
  | clear (b : Body StandRef)
  /-- CALL_DEADLINE_EXPIRY (R149) -/
  | callDeadlineExpiry (c : Slot) (l : Lane)
  /-- SIGN_ON (R83) -/
  | signOn (b : Body SignOnReport)
  /-- SIGN_OFF with its gang id (R84) -/
  | signOff (b : Body Nat)
  /-- ENTER (R85) -/
  | enter (b : Body EnterRequest)
  /-- UNITS (R88) -/
  | units (b : Body UnitsReport)
  /-- CHECK with its gang id (R89) -/
  | check (b : Body Nat)
  /-- EXIT with its gang id (R90) -/
  | exit (b : Body Nat)
  /-- CHECK_IN_TIMER_EXPIRY (R93) -/
  | checkInTimerExpiry (g : GangId)
  /-- SETUP (R169) -/
  | setup (b : Body Unit)
  /-- OPERATE (R170) -/
  | operate (b : Body Unit)
  /-- CONFIG with its list of items (R171) -/
  | config (b : Body (List ConfigItem))
  /-- OVERRIDE_GEOMETRY (R173) -/
  | overrideGeometry (b : Body OverrideRequest)
  /-- OPEN_BERTH (R11) -/
  | openBerth (b : Body VesselRequest)
  /-- CLEAR_BERTH (R12) -/
  | clearBerth (b : Body Unit)
  /-- SECTION_SET (R64) -/
  | sectionSet (b : Body SectionRequest)
  /-- APPEND (R106) -/
  | append (b : Body AppendRequest)
  /-- INSERT (R107) -/
  | insert (b : Body EditRequest)
  /-- DELETE with its tag (R108) -/
  | delete (b : Body Nat)
  /-- REPLACE (R109) -/
  | replace (b : Body EditRequest)
  /-- READ_QUEUE (R112) -/
  | readQueue (b : Body QueueRequest)
  /-- READ_NEXT (R113) -/
  | readNext (b : Body Unit)
  /-- LOG_READ with its k (R161) -/
  | logRead (b : Body Nat)
  /-- LOG_FREE with its n (R162) -/
  | logFree (b : Body Nat)
  /-- ALERT_READ (R165) -/
  | alertRead (b : Body Unit)
  /-- ALERT_ACK with its two mask bytes (R166, Table 11.4) -/
  | alertAck (b : Body (BitVec 16))
  /-- RECALL with its tag (R152) -/
  | recall (b : Body Nat)
  /-- FORCE_RELEASE with its crane slot (R136) -/
  | forceRelease (b : Body Nat)
  /-- STATUS span (R61) -/
  | statusSpan (b : Body Unit)
  /-- STATUS sections (R79) -/
  | statusSections (b : Body Unit)
  /-- STATUS stands (R158) -/
  | statusStands (b : Body Unit)
  /-- STATUS gangs (R97) -/
  | statusGangs (b : Body Unit)
  /-- STATUS mode (R174) -/
  | statusMode (b : Body Unit)
  /-- SENSOR_LINE_CHANGE: line `k` now stands at `level` (R54, R55) -/
  | sensorLineChange (k : LineNo) (level : Level)
  /-- QUAY_HALT_CHANGE: the QUAY-HALT line now stands at `level` (R58) -/
  | quayHaltChange (level : Level)
  /-- LINK_SILENCE_EXPIRY (R178) -/
  | linkSilenceExpiry (p : PortId)
  /-- INTER_BYTE_GAP_EXPIRY (R176) -/
  | interByteGapExpiry (p : PortId)
  /-- QUAY_CLOCK_ADVANCE (R4) -/
  | quayClockAdvance
  /-- BYTE_ARRIVAL, with the mark of a stop-bit error (R176) -/
  | byteArrival (p : PortId) (byte : Byte) (stopError : Bool)
  /-- TELEGRAM_SENT (R179) -/
  | telegramSent (p : PortId)
  deriving DecidableEq, Repr

end Sys2Proof
end

