-- ==== Sys2Proof/Decode.lean ====
section
/-! DEFINITION. The commands that a word spells by the bits of spec/opcode_table.json. The table gives no row any bits
(every row's "fields" is empty and none has "fixed"), so no word spells a command (log 2). The bytes of telegrams are
read by the receivers of the ports, in Machine/Layout.lean and Machine/Link.lean. -/

namespace Sys2Proof

/-- The command a word of `nbits` bits spells by the opcode table: none, since no row has bits. -/
def decodeTableWord (nbits w : Nat) : Option Instr :=
  match nbits, w with
  | _, _ => none

end Sys2Proof
end

