-- ==== Sys2Proof/Machine/Records.lean ====
section
/-! DEFINITION. The records the QW824 holds and the telegrams it sends, and the value of each record after power-on. -/

namespace Sys2Proof.Machine

/-! ### Names -/

/-- Part mode (R168). -/
inductive PartMode where
  | setup
  | operating
  deriving DecidableEq, Repr

/-- Where the geometry in force comes from, when not the default geometry (R18). -/
inductive GeometrySource where
  | crane
  | plan
  deriving DecidableEq, Repr

/-- State of the clearance watch of a neighbouring pair (R51). -/
inductive Watch where
  | clear
  | near
  deriving DecidableEq, Repr

/-- Vessel heading (Table 1.4). -/
inductive Heading where
  | bowWest
  | bowEast
  deriving DecidableEq, Repr

/-- Hatch cover (Table 4.1). -/
inductive Hatch where
  | fitted
  | lifted
  deriving DecidableEq, Repr

/-- A gang's task (R81). -/
inductive Task where
  | unlash
  | lash
  deriving DecidableEq, Repr

/-- Where a box stands on the vessel (Table 6.1). -/
inductive DeckLevel where
  | deck
  | hold
  deriving DecidableEq, Repr

/-- Kind and level of a move: the hatch kinds have no level (Table 6.1). -/
inductive Job where
  | discharge (l : DeckLevel)
  | load (l : DeckLevel)
  | hatchOff
  | hatchOn
  deriving DecidableEq, Repr

/-- Group mark (Table 6.1). -/
inductive GroupMark where
  | single
  | twinFirst
  | twinSecond
  deriving DecidableEq, Repr

/-- State of a move record (R98). -/
inductive MoveState where
  | queued
  | assigned
  deriving DecidableEq, Repr

/-- Phase of a group in flight (Table 7.1). -/
inductive Phase where
  | assigned
  | locked
  | aloft
  deriving DecidableEq, Repr

/-- Truck state of a group in flight (Table 7.2). -/
inductive TruckState where
  | notNeeded
  | pending
  | called
  | present
  | departed
  | failed
  deriving DecidableEq, Repr

/-- Direction of a call: DELIVER for a LOAD group, RECEIVE for a DISCHARGE group (Table 8.1). -/
inductive Direction where
  | deliver
  | receive
  deriving DecidableEq, Repr

/-- Result of a completion record (Table 9.1). -/
inductive MoveResult where
  | done
  | forced
  deriving DecidableEq, Repr

/-- The twelve alerts (Table 9.3), in the order of the alert mask's bits (Table 11.4). -/
inductive Alert where
  | craneLost
  | craneDrift
  | sensorTrip
  | sensorDisagree
  | quayHalt
  | truckLate
  | truckGone
  | gangOverdue
  | countOverrun
  | tallyLow
  | logBacklog
  | windowEmpty
  deriving DecidableEq, Repr

/-- The bit of an alert in the alert mask (Table 11.4). -/
def Alert.bit : Alert → Fin 12
  | .craneLost => 0
  | .craneDrift => 1
  | .sensorTrip => 2
  | .sensorDisagree => 3
  | .quayHalt => 4
  | .truckLate => 5
  | .truckGone => 6
  | .gangOverdue => 7
  | .countOverrun => 8
  | .tallyLow => 9
  | .logBacklog => 10
  | .windowEmpty => 11

/-- The detail an alert keeps of its first occurrence (Table 9.3). -/
inductive AlertDetail where
  /-- CRANE_LOST, WINDOW_EMPTY -/
  | crane (c : Slot) (time : Time)
  /-- CRANE_DRIFT -/
  | drift (c : Slot) (tag : Nat) (time : Time)
  /-- SENSOR_TRIP -/
  | line (k : LineNo) (time : Time)
  /-- SENSOR_DISAGREE -/
  | gap (k : LineNo) (gap : Int) (time : Time)
  /-- QUAY_HALT -/
  | halt (time : Time)
  /-- TRUCK_LATE, TRUCK_GONE -/
  | truck (c : Slot) (tag : Nat) (l : Lane) (time : Time)
  /-- GANG_OVERDUE, COUNT_OVERRUN -/
  | gang (g : GangId) (section_ : Nat) (time : Time)
  /-- TALLY_LOW -/
  | tally (section_ : Nat) (tag : Nat) (time : Time)
  /-- LOG_BACKLOG -/
  | backlog (c : Slot) (tag : Nat) (count : Nat) (time : Time)
  deriving DecidableEq, Repr

/-! ### Setup Control -/

/-- The configuration items (Tables 10.2 and 10.3). -/
structure ConfigSet where
  fitted : Mask
  park : Vector Nat 8
  westLimit : Nat
  eastLimit : Nat
  clearance : Nat
  startMargin : Nat
  nearDistance : Nat
  hysteresis : Nat
  creepSpeed : Nat
  bayTolerance : Nat
  arriveTolerance : Nat
  exclusionRadius : Nat
  reportLimit : Nat
  linkSilence : Nat
  joinTimer : Nat
  sensorModes : Vector SensorMode 7
  haltPolarity : Level
  permitDrive : PermitDrive
  grace : Nat
  maxRecalls : Nat
  checkInterval : Nat
  takeModes : Vector TakeMode 8
  lookahead : Nat
  alertMask : BitVec 12
  deriving DecidableEq, Repr

/-- The reset values of Tables 10.2 and 10.3. -/
def ConfigSet.reset : ConfigSet where
  fitted := 0#8
  park := Vector.replicate 8 0
  westLimit := 0
  eastLimit := 65535
  clearance := 500
  startMargin := 100
  nearDistance := 1500
  hysteresis := 300
  creepSpeed := 20
  bayTolerance := 30
  arriveTolerance := 20
  exclusionRadius := 1
  reportLimit := 300
  linkSilence := 1000
  joinTimer := 200
  sensorModes := Vector.replicate 7 .disabled
  haltPolarity := .low
  permitDrive := .openDrain
  grace := 300
  maxRecalls := 2
  checkInterval := 6000
  takeModes := Vector.replicate 8 .inOrder
  lookahead := 4
  alertMask := 0xFFF#12

/-- The default geometry of Table 2.3. -/
def defaultGeometry : Geometry where
  rail := { westExtent := 2500, eastExtent := 2500, deceleration := 10, reactionTime := 2000, maxSpeed := 255 }
  hoist := { hoistSpeed := 50, trolleySpeed := 100, lockTime := 200 }
  lanes := { laneMask := 0#8, laneOffsets := Vector.replicate 8 6000 }

/-! ### Crane Registry -/

/-- A join in progress: its join progress, the next page expected, and its join buffer, the pages received (R21, R22). -/
inductive Join where
  | awaitPage1
  | awaitPage2 (one : Page1)
  | awaitPage3 (one : Page1) (two : Page2)
  deriving DecidableEq, Repr

/-- Slot state; the join progress and join buffer are present exactly while JOINING (Table 2.1). -/
inductive SlotState where
  | down
  | joining (j : Join)
  | stale
  | active
  deriving DecidableEq, Repr

/-- Crane record (Table 2.1), with the slot's two millisecond timers: `none` stopped, `some ms` running from the length it
was started with (R24, R29). The geometry in force and its source are computed (R18). -/
structure CraneRecord where
  slotState : SlotState
  declared : Option Geometry
  lastPosition : Option Nat
  lastVelocity : Int
  lastReportTime : Option Time
  driftMark : Bool
  joinTimer : Option Nat
  reportTimer : Option Nat
  deriving DecidableEq, Repr

/-- The slot state without the join in progress, as STATUS span reports it (R17, R61). -/
inductive SlotStateName where
  | down
  | joining
  | stale
  | active
  deriving DecidableEq, Repr

/-- The name of a slot state. -/
def SlotState.name : SlotState → SlotStateName
  | .down => .down
  | .joining _ => .joining
  | .stale => .stale
  | .active => .active

/-- A crane record at power-on, and when its slot is made unfitted (R17, R6). -/
def CraneRecord.reset : CraneRecord where
  slotState := .down
  declared := none
  lastPosition := none
  lastVelocity := 0
  lastReportTime := none
  driftMark := false
  joinTimer := none
  reportTimer := none

/-! ### Span Computer -/

/-- A travel window as computed, in signed arithmetic (R38 to R40). -/
structure Window where
  lo : Int
  hi : Int
  deriving DecidableEq, Repr

/-- What the Span Computer holds for a slot (section 3, R6: nothing for an unfitted slot). -/
structure SpanRecord where
  window : Option Window
  goal : Option Nat
  eastPermit : Bool
  westPermit : Bool
  emptyMark : Bool
  deriving DecidableEq, Repr

/-- A slot's span record at power-on and while unfitted. -/
def SpanRecord.reset : SpanRecord where
  window := none
  goal := none
  eastPermit := false
  westPermit := false
  emptyMark := false

/-- What a permit line does at its terminals (R49). -/
inductive LineDrive where
  /-- an open-drain line that is asserted: the switch to the line's return is closed -/
  | conducting
  /-- an open-drain line that is deasserted: the crane's own pull-up shows no permit -/
  | leftOpen
  | drivenHigh
  | drivenLow
  deriving DecidableEq, Repr

/-- How a drive shows a permit line that is asserted or deasserted (R49). -/
def lineDrive : PermitDrive → Bool → LineDrive
  | .openDrain, true => .conducting
  | .openDrain, false => .leftOpen
  | .pushPull, true => .drivenHigh
  | .pushPull, false => .drivenLow

/-! ### Section Table -/

/-- The vessel record (Table 1.4). -/
structure Vessel where
  reference : Nat
  heading : Heading
  pitch : Nat
  count : Nat
  trims : List Int
  rowZero : Nat
  rowPitch : Nat
  rowCount : Nat
  deriving DecidableEq, Repr

/-- A section record (Table 4.1); its index is its place in the list of sections, from 1. -/
structure Section where
  position : Nat
  unlash : Nat
  lash : Nat
  tally : Nat
  hatch : Hatch
  claim : Option Slot
  gang : Option GangId
  waiting : List GangId
  deriving DecidableEq, Repr

/-- A section record as OPEN_BERTH creates it (Table 1.5). -/
def Section.created (position : Nat) : Section where
  position := position
  unlash := 0
  lash := 0
  tally := 0
  hatch := .fitted
  claim := none
  gang := none
  waiting := []

/-- The sections a move or group covers: one, or a section and the next (R13, R14). -/
inductive Footprint where
  | one (s : Nat)
  | two (s : Nat)
  deriving DecidableEq, Repr

/-- The sections of a footprint, ascending. -/
def Footprint.sections : Footprint → List Nat
  | .one s => [s]
  | .two s => [s, s + 1]

/-- The lowest section of a footprint (R14). -/
def Footprint.lowest : Footprint → Nat
  | .one s => s
  | .two s => s

/-! ### Gang Roster -/

/-- A gang record (Table 5.1): each state holds the fields present in it. The check-in timer runs exactly while the gang is
ABOARD and not overdue (R92). -/
inductive Gang where
  | off
  | ashore (headcount : Nat)
  | waiting (headcount : Nat) (section_ : Nat) (task : Task)
  | aboard (headcount : Nat) (section_ : Nat) (task : Task) (lastCheck : Time) (overdue : Bool)
  deriving DecidableEq, Repr

/-- What a refusal with GANG_STATE shows of a gang: its state and, in WAITING and ABOARD, its section and task (R82). -/
inductive GangShown where
  | off
  | ashore
  | waiting (section_ : Nat) (task : Task)
  | aboard (section_ : Nat) (task : Task)
  deriving DecidableEq, Repr

/-- A gang record as a refusal shows it (R82). -/
def Gang.shown : Gang → GangShown
  | .off => .off
  | .ashore _ => .ashore
  | .waiting _ i t => .waiting i t
  | .aboard _ i t _ _ => .aboard i t

/-! ### Move Store -/

/-- A move record of the pool (Table 6.1). -/
structure MoveRecord where
  tag : Nat
  job : Job
  bay : Nat
  size : Nat
  mark : GroupMark
  row : Nat
  height : Nat
  laneMask : Mask
  lash : Nat
  state : MoveState
  deriving DecidableEq, Repr

/-- The plan read cursor (R112). -/
structure Cursor where
  slot : Slot
  index : Nat
  deriving DecidableEq, Repr

/-! ### Cycle Controller -/

/-- An in-flight group record (Table 7.1). -/
structure Flight where
  first : Nat
  second : Option Nat
  job : Job
  phase : Phase
  footprint : Footprint
  workPosition : Nat
  truck : TruckState
  lane : Option Lane
  truckId : Option Nat
  recallCount : Nat
  takenTime : Time
  deriving DecidableEq, Repr

/-- The tags of a group, in queue order. -/
def Flight.tags (f : Flight) : List Nat := f.first :: f.second.toList

/-! ### Stand Dispatcher -/

/-- What a stand holds of the call made for it (Table 8.1). -/
structure Call where
  number : Nat
  tags : List Nat
  direction : Direction
  size : Nat
  railPosition : Nat
  deriving DecidableEq, Repr

/-- A stand record (Tables 8.1 and 8.2): each state holds the fields present in it. A CALLED stand also keeps whether its
lead was held, which the resync sends again (R146, R157). -/
inductive Stand where
  | free
  | called (call : Call) (due deadline : Time) (leadHeld : Bool)
  | occupied (call : Call) (truck : Nat)
  | released (number : Nat) (truck : Nat)
  deriving DecidableEq, Repr

/-- A stand record with the fields of Table 8.1 that are present in its state, as STATUS stands gives it (R158). -/
inductive StandShown where
  | free
  | called (call : Call) (due deadline : Time)
  | occupied (call : Call) (truck : Nat)
  | released (number : Nat) (truck : Nat)
  deriving DecidableEq, Repr

/-- What STATUS stands gives of a stand (R158): Table 8.1's fields, so not the mark that the lead was held. -/
def Stand.shown : Stand → StandShown
  | .free => .free
  | .called k due deadline _ => .called k due deadline
  | .occupied k truck => .occupied k truck
  | .released number truck => .released number truck

/-- The state of a stand without its fields, as replies carry it. -/
inductive StandName where
  | free
  | called
  | occupied
  | released
  deriving DecidableEq, Repr

/-- The state of a stand record. -/
def Stand.name : Stand → StandName
  | .free => .free
  | .called _ _ _ _ => .called
  | .occupied _ _ => .occupied
  | .released _ _ => .released

/-! ### Completion Log -/

/-- A completion record (Table 9.1). -/
structure CompletionRecord where
  tag : Nat
  slot : Slot
  job : Job
  bay : Nat
  size : Nat
  lane : Option Lane
  truckId : Option Nat
  takenTime : Time
  endTime : Time
  recallCount : Nat
  result : MoveResult
  deriving DecidableEq, Repr

/-! ### Telegrams the part sends -/

/-- The types of request a master sends (Table 11.2). -/
inductive RequestType where
  | join
  | position
  | travel
  | travelCancel
  | take
  | phase
  | abandon
  | setBack
  | leave
  | lanes
  | arrive
  | gone
  | clear
  | signOn
  | enter
  | units
  | check
  | exit
  | signOff
  | setup
  | operate
  | config
  | overrideGeometry
  | openBerth
  | clearBerth
  | sectionSet
  | append
  | insert
  | delete
  | replace
  | readQueue
  | readNext
  | logRead
  | logFree
  | alertRead
  | alertAck
  | recall
  | forceRelease
  | status
  deriving DecidableEq, Repr

/-- Reason codes (Table 11.3). -/
inductive Reason where
  | notOperating
  | notInSetup
  | halted
  | notActive
  | slotMismatch
  | pageOrder
  | pageRange
  | moveInFlight
  | noMove
  | logBacklog
  | groupIncomplete
  | notAtBay
  | sectionClaimed
  | gangAboard
  | gangWaiting
  | lashed
  | hatchFitted
  | hatchLifted
  | deckOccupied
  | noTruck
  | phaseOrder
  | loadAboard
  | notAllowed
  | windowEmpty
  | callStale
  | standState
  | gangState
  | sectionBusy
  | sectionRange
  | noVessel
  | berthBusy
  | positionRange
  | bayRange
  | duplicateTag
  | unknownTag
  | queueFull
  | poolFull
  | locked
  | busy
  | badValue
  deriving DecidableEq, Repr

/-- What an OPERATE's refusal names as failed (R170). -/
inductive OperateFault where
  | limits
  | park (c : Slot)
  | line (k : LineNo)
  deriving DecidableEq, Repr

/-- What a REFUSE carries besides the request's type and the reason (R179). -/
inductive RefuseInfo where
  | none
  /-- NOT_AT_BAY: the work position (R121) -/
  | requiredPosition (p : Nat)
  /-- a lane telegram: the present state of the stand (R140) -/
  | stand (s : StandName)
  /-- GANG_STATE: the gang's state with its section and task (R82) -/
  | gang (g : GangShown)
  /-- CONFIG: the item that failed (R171) -/
  | item (i : ConfigItem)
  /-- OPERATE: what failed (R170) -/
  | operate (f : OperateFault)
  deriving DecidableEq, Repr

/-- Result of a JOIN_ACK (section 2.3). -/
inductive JoinResult where
  | ok
  | overridden
  | slotMismatch
  | pageOrder
  | pageRange
  | notAllowed
  deriving DecidableEq, Repr

/-- WINDOW (R60). -/
structure WindowReply where
  lo : Nat
  hi : Nat
  eastPermit : Bool
  westPermit : Bool
  eastNear : Bool
  westNear : Bool
  eastUncertain : Bool
  westUncertain : Bool
  goal : Option Nat
  saturated : Bool
  clamped : Bool
  deriving DecidableEq, Repr

/-- MOVE (R138). -/
structure MoveReply where
  slot : Slot
  phase : Phase
  truck : TruckState
  lane : Option Lane
  recallCount : Nat
  takenTime : Time
  footprint : Footprint
  workPosition : Nat
  moves : List MoveRecord
  deriving DecidableEq, Repr

/-- How a PHASE_ACK says a group ended (Table 11.4). -/
inductive GroupOutcome where
  | landed
  | abandoned
  | setBack
  deriving DecidableEq, Repr

/-- PHASE_ACK (R125): phase, truck state and lane of the group, absent once it has ended (log 13). -/
structure PhaseReply where
  tag : Nat
  phase : Option Phase
  truck : Option TruckState
  lane : Option Lane
  outcome : Option GroupOutcome
  saturated : Bool
  deriving DecidableEq, Repr

/-- Cause of a STAND_LOST (R148). -/
inductive LostCause where
  | late
  | gone
  deriving DecidableEq, Repr

/-- LANE_ACK. -/
inductive LaneReply where
  /-- of LANES: the open mask and the number of calls cancelled (R141) -/
  | lanes (mask : Mask) (cancelled : Nat)
  /-- of ARRIVE: with the tags and the direction (R147) -/
  | arrived (c : Slot) (l : Lane) (state : StandName) (tags : List Nat) (direction : Direction)
  /-- of GONE on an OCCUPIED stand: with the group's truck state (R151) -/
  | gone (c : Slot) (l : Lane) (state : StandName) (truck : Option TruckState)
  /-- of CLEAR, and of GONE on a RELEASED stand (R155) -/
  | clear (c : Slot) (l : Lane) (state : StandName)
  deriving DecidableEq, Repr

/-- CALL (R146). -/
structure CallNotice where
  number : Nat
  slot : Slot
  lane : Lane
  railPosition : Nat
  due : Time
  direction : Direction
  size : Nat
  saturated : Bool
  tags : List Nat
  deriving DecidableEq, Repr

/-- GANG_ACK (section 5.2). -/
inductive GangReply where
  | granted (g : GangId) (section_ : Nat)
  | waiting (g : GangId) (section_ : Nat) (place : Nat)
  | ok (g : GangId) (clamped sectionDone overrun : Bool)
  deriving DecidableEq, Repr

/-- PLAN_ACK, with what the rule of its request has it carry. -/
inductive PlanReply where
  /-- nothing besides the acknowledgement (R11, R12) -/
  | taken
  /-- SECTION_SET (R64) -/
  | sectionSet (saturated : Bool)
  /-- SETUP, OPERATE (R169, R170) -/
  | mode (m : PartMode)
  /-- CONFIG: every item with the value now stored (R171) -/
  | config (items : List ConfigItem)
  /-- OVERRIDE_GEOMETRY (R173) -/
  | geometry (c : Slot) (g : Geometry) (source : Option GeometrySource)
  /-- an edit (R105) -/
  | edit (tag : Nat) (c : Slot) (index : Option Nat) (length pool : Nat)
  /-- READ_QUEUE (R112) -/
  | queue (c : Slot) (index length assigned groups pool : Nat)
  /-- LOG_FREE (R162) -/
  | logFree (removed count : Nat) (clamped : Bool)
  /-- ALERT_ACK: the mask of the flags set after it (R166, Table 11.4) -/
  | alerts (flags : BitVec 16)
  /-- RECALL (R152) -/
  | recall (tag : Nat) (truck : TruckState) (lane : Option Lane)
  /-- FORCE_RELEASE (R136) -/
  | forced (c : Slot) (tags : List Nat)
  deriving DecidableEq, Repr

/-- The group standing READ_NEXT shows (R113). -/
inductive Standing where
  | single
  | twin
  | incomplete
  deriving DecidableEq, Repr

/-- One side of a crane in STATUS span: its pair's watch state and physical gap, and trip state (R61). -/
structure SideStatus where
  watch : Option Watch
  gap : Option Int
  tripped : Bool
  deriving DecidableEq, Repr

/-- One fitted crane in STATUS span (R61, R17). -/
structure CraneStatus where
  slot : Slot
  slotState : SlotStateName
  position : Nat
  neverReported : Bool
  velocity : Int
  reportTime : Option Time
  lo : Nat
  hi : Nat
  saturated : Bool
  goal : Option Nat
  eastPermit : Bool
  westPermit : Bool
  east : SideStatus
  west : SideStatus
  emptyMark : Bool
  deriving DecidableEq, Repr

/-- The truck of a group in flight, in STATUS stands (R158). -/
structure TruckStatus where
  slot : Slot
  truck : TruckState
  lane : Option Lane
  truckId : Option Nat
  recallCount : Nat
  deriving DecidableEq, Repr

/-- One gang in STATUS gangs (R97). -/
structure GangStatus where
  gang : Gang
  /-- place in its section's waiting list, while WAITING -/
  place : Option Nat
  /-- Quay Clock less last check time, while ABOARD -/
  sinceCheck : Option Int
  deriving DecidableEq, Repr

/-- The geometry of one slot in STATUS mode (R174). -/
structure GeometryStatus where
  inForce : Geometry
  source : Option GeometrySource
  override : Option Geometry
  deriving DecidableEq, Repr

/-- What a read reply carries. -/
inductive Snapshot where
  /-- READ_NEXT: slot, index, record, group number, standing (R113) -/
  | move (c : Slot) (index : Nat) (m : MoveRecord) (group : Nat) (standing : Standing)
  /-- READ_NEXT at the end: slot and queue length (R113) -/
  | queueEnd (c : Slot) (length : Nat)
  /-- LOG_READ (R161) -/
  | log (count : Nat) (records : List CompletionRecord)
  /-- ALERT_READ: the mask of the flags set, their details, the enable mask, ATTN (R165, Table 11.4) -/
  | alerts (flags : BitVec 16) (details : Vector (Option AlertDetail) 12) (enabled : BitVec 16) (attn : Bool)
  /-- STATUS span (R61) -/
  | span (cranes : List CraneStatus) (halted : Bool)
  /-- STATUS sections (R79) -/
  | sections (vessel : Option Vessel) (records : List Section)
  /-- STATUS stands (R158) -/
  | stands (mask : Mask) (lanePortUp : Bool) (pointers : Vector Lane 8) (counter : Nat)
      (stands : Vector (Vector StandShown 8) 8) (trucks : List TruckStatus)
  /-- STATUS gangs (R97) -/
  | gangs (records : Vector GangStatus 8)
  /-- STATUS mode (R174) -/
  | mode (mode : PartMode) (config : ConfigSet) (geometries : Vector GeometryStatus 8)
      (cranePorts : Vector Bool 8) (lanePort gangPort planPort : Bool) (halted : Bool) (clock : Time)
  deriving DecidableEq, Repr

/-- The telegrams the part sends (Table 11.2). -/
inductive Telegram where
  | joinAck (page : Nat) (result : JoinResult)
  | window (w : WindowReply)
  | travelGrant (goal lo hi : Nat) (clamped saturated : Bool)
  | move (m : MoveReply)
  | phaseAck (p : PhaseReply)
  | standReady (tag : Nat) (l : Lane) (truck : Nat)
  | standLost (tag : Nat) (l : Lane) (cause : LostCause)
  | refuse (request : RequestType) (reason : Reason) (info : RefuseInfo)
  | laneAck (a : LaneReply)
  | call (c : CallNotice)
  | cancel (number : Nat) (c : Slot) (l : Lane)
  | depart (number : Nat) (c : Slot) (l : Lane) (truck : Nat)
  | gangAck (a : GangReply)
  | grant (g : GangId) (section_ : Nat)
  | overdue (g : GangId) (section_ : Nat) (task : Task) (headcount : Nat) (lastCheck : Time)
  | planAck (a : PlanReply)
  /-- a read reply sent whole, or one telegram of the run it takes: its sequence number and last mark (R179) -/
  | readReply (s : Snapshot) (part : Option (Nat × Bool))
  deriving DecidableEq, Repr

/-! ### Port Interface -/

/-- Receive state of a port, with what it has of the frame (R176). -/
inductive Receiver where
  | hunt
  | length
  | type (len : Nat)
  | body (len : Nat) (ty : Byte) (bytes : List Byte)
  | check (len : Nat) (ty : Byte) (bytes : List Byte) (high : Option Byte)
  deriving DecidableEq, Repr

/-- One port: receive state, link-up flag, silence timer (`some ms` while running), telegrams waiting (R176, R178, R179). -/
structure Port where
  rx : Receiver
  linkUp : Bool
  silence : Option Nat
  outbox : List Telegram
  deriving DecidableEq, Repr

/-- A port at power-on (R176, R178). -/
def Port.reset : Port where
  rx := .hunt
  linkUp := false
  silence := none
  outbox := []

end Sys2Proof.Machine
end

