-- ==== Sys2Proof/Config.lean ====
section
/-! DEFINITION. What the spec leaves open and the part fixes: the free values of the model. Each is a constant with no
body, so nothing proved can rest on a value of it. -/

namespace Sys2Proof

/-- FREE VALUE (log 11). When one event raises one alert for several cranes, lines or sections and no rule orders them,
the place, among those, of the one whose detail is kept (R164 keeps the first). Applied to the Quay Clock and to the
numbers of the cranes, lines or sections. -/
opaque Config.firstRaised : Time → List Nat → Nat

/-- FREE VALUE (log 12). How many telegrams the read reply to a STATUS takes (R179: as many as its snapshot needs at 200
body bytes each; the spec lays no snapshot out). -/
opaque Config.statusRun : Machine.Snapshot → Nat

/-- FREE VALUE (log 4). What a valid telegram's body says, where the spec names the fields of the telegram but gives its
body no layout (R179, section 11.6). Applied to the port, the type byte and the body. -/
opaque Config.bodyLayout : PortId → Byte → List Byte → Option Instr

end Sys2Proof
end

