-- ==== Sys2Proof/Machine/State.lean ====
section
/-! DEFINITION. The state of the QW824 as plain data, the reasons a step can stop, and the state after power-on. -/

namespace Sys2Proof.Machine

/-- Everything the part holds. The first field is the model's own: the commands that wait to be taken. -/
structure State where
  /-- the commands waiting, first in first out (log 1) -/
  pending : List Instr
  /-- the Quay Clock (R4) -/
  clock : Time
  /-- Setup Control: the part mode (R168) -/
  mode : PartMode
  /-- Setup Control: the configuration set (R171) -/
  config : ConfigSet
  /-- Setup Control: the geometry override of each slot (R173) -/
  overrides : Vector (Option Geometry) 8
  /-- Crane Registry: the eight crane records (R17) -/
  cranes : Vector CraneRecord 8
  /-- Span Computer: window, goal, permit lines and empty mark of each slot (R38 to R47) -/
  span : Vector SpanRecord 8
  /-- Span Computer: the watch state of each neighbouring pair, kept under the pair's west slot (R51) -/
  watches : Vector (Option Watch) 8
  /-- the present level of each gap sensor line (R53) -/
  sensorLevels : Vector Level 7
  /-- Span Computer: the trip latch of each gap sensor line (R53) -/
  latches : Vector Bool 7
  /-- the present level of the QUAY-HALT line (R58) -/
  haltLine : Level
  /-- Span Computer: the halt state (R58) -/
  halted : Bool
  /-- Section Table: the vessel record (R11) -/
  vessel : Option Vessel
  /-- Section Table: the section records, section 1 first (R63) -/
  sections : List Section
  /-- Gang Roster: the eight gang records (R81) -/
  gangs : Vector Gang 8
  /-- Move Store: the eight queues, head first; the pool is their records (R100) -/
  queues : Vector (List MoveRecord) 8
  /-- Move Store: the plan read cursor (R112) -/
  cursor : Cursor
  /-- Cycle Controller: the in-flight group of each slot (R116) -/
  flights : Vector (Option Flight) 8
  /-- Stand Dispatcher: the stand of each slot and lane (R139) -/
  stands : Vector (Vector Stand 8) 8
  /-- Stand Dispatcher: the lane open mask (R139) -/
  laneMask : Mask
  /-- Stand Dispatcher: the rotation pointer of each slot (R139) -/
  pointers : Vector Lane 8
  /-- Stand Dispatcher: the number the next call takes (R139) -/
  callCounter : Nat
  /-- Completion Log, oldest first (R159) -/
  log : List CompletionRecord
  /-- Completion Log: the backlog state (R163) -/
  backlog : Bool
  /-- Alert Unit: the flag and detail of each alert, by its bit (R164) -/
  alerts : Vector (Option AlertDetail) 12
  /-- Alert Unit: the ATTN line (R167) -/
  attn : Bool
  /-- Port Interface: crane ports CP0 to CP7 (R178) -/
  cranePorts : Vector Port 8
  /-- Port Interface: the lane port -/
  lanePort : Port
  /-- Port Interface: the gang port -/
  gangPort : Port
  /-- Port Interface: the plan port -/
  planPort : Port
  deriving DecidableEq, Repr

/-- Reasons the machine stops with a fault. The spec gives the part none: a request that cannot be taken is answered
REFUSE (R3) and a bad frame is discarded (R176), and both are next states. -/
inductive Fault where
  deriving DecidableEq, Repr

/-- Reasons a command has no meaning in the model. -/
inductive Refusal where
  /-- Raised by exec's arm of a command that is not modelled yet; no arm does. Safe: nothing is claimed of the command. -/
  | notModelled (mnemonic : String)
  deriving DecidableEq, Repr

/-- The alerts as power-on completes: all clear (R164), then QUAY_HALT if the halt begins at that moment (R58). -/
def alertsAtPowerOn (halted : Bool) : Vector (Option AlertDetail) 12 :=
  if halted then put (Vector.replicate 12 none) Alert.quayHalt.bit (some (.halt 0#32)) else Vector.replicate 12 none

/-- The part as power-on completes, with the input lines at the given levels (R168, Table by table: R4, R17, R53, R58,
R63, R81, R100, R112, R116, R139, R159, R164, R176, R178). The polarity is then LOW, so a low QUAY-HALT line is active. -/
def State.poweredOn (haltLine : Level) (sensors : Vector Level 7) : State where
  pending := []
  clock := 0#32
  mode := .setup
  config := ConfigSet.reset
  overrides := Vector.replicate 8 none
  cranes := Vector.replicate 8 CraneRecord.reset
  span := Vector.replicate 8 SpanRecord.reset
  watches := Vector.replicate 8 none
  sensorLevels := sensors
  latches := Vector.replicate 7 false
  haltLine := haltLine
  halted := haltLine == ConfigSet.reset.haltPolarity
  vessel := none
  sections := []
  gangs := Vector.replicate 8 .off
  queues := Vector.replicate 8 []
  cursor := { slot := 0, index := 0 }
  flights := Vector.replicate 8 none
  stands := Vector.replicate 8 (Vector.replicate 8 .free)
  laneMask := 0#8
  pointers := Vector.replicate 8 7
  callCounter := 1
  log := []
  backlog := false
  alerts := alertsAtPowerOn (haltLine == ConfigSet.reset.haltPolarity)
  attn := haltLine == ConfigSet.reset.haltPolarity
  cranePorts := Vector.replicate 8 Port.reset
  lanePort := Port.reset
  gangPort := Port.reset
  planPort := Port.reset

/-- The machine right after reset: power-on (R168) with the QUAY-HALT line at the level its internal pull-down gives an
unconnected wire (R58) and the gap sensor lines low (log 10). -/
def State.reset : State := State.poweredOn .low (Vector.replicate 7 .low)

end Sys2Proof.Machine
end

