-- ==== Sys2Proof/Machine/Ops.lean ====
section
/-! DEFINITION. The one read and the one write of each table of State, the arithmetic conventions of chapter 1, and sending
telegrams. -/

namespace Sys2Proof.Machine

/-! ### Arithmetic (R1 to R5) -/

/-- A quotient rounded up to the next whole unit (R2). -/
def ceilDiv (n d : Nat) : Nat := (n + (d - 1)) / d

/-- The mean of two rail positions, rounded down (R2). -/
def mean (a b : Nat) : Nat := (a + b) / 2

/-- The magnitude of the difference of two positions or bays. -/
def distance (a b : Nat) : Nat := (a - b) + (b - a)

/-- A value held into a range at the nearer end (R3). -/
def hold (lo hi x : Int) : Int := max lo (min hi x)

/-- A bound held into the range of a rail position, as it is reported (R40). -/
def heldPosition (x : Int) : Nat := (hold 0 65535 x).toNat

/-- The signed 32-bit difference of two Quay Clock times (R5). -/
def timeSince (now t : Time) : Int := (now - t).toInt

/-- A deadline is reached when the clock less the deadline is zero or positive (R5). -/
def reached (now deadline : Time) : Bool := decide (0 ≤ timeSince now deadline)

/-- Bit `i` of a mask byte (R180). -/
def has (m : Mask) (i : Fin 8) : Bool := m.getLsbD i.val

/-- The speed of a crane toward the east (R1). -/
def eastSpeed (v : Int) : Nat := v.toNat

/-- The speed of a crane toward the west (R1). -/
def westSpeed (v : Int) : Nat := (-v).toNat

/-- Of the numbers raised at one event, the one whose detail is kept: the only one, or a free choice among several
(R164, log 11). -/
def keptFirst (now : Time) : List Nat → Option Nat
  | [] => none
  | [n] => some n
  | n :: m :: rest =>
    some ((n :: m :: rest).getD (Config.firstRaised now (n :: m :: rest) % (rest.length + 2)) n)

/-! ### Tables -/

def State.crane (s : State) (c : Slot) : CraneRecord := entry s.cranes c
def State.setCrane (s : State) (c : Slot) (r : CraneRecord) : State := { s with cranes := put s.cranes c r }
def State.spanOf (s : State) (c : Slot) : SpanRecord := entry s.span c
def State.setSpan (s : State) (c : Slot) (r : SpanRecord) : State := { s with span := put s.span c r }
def State.override (s : State) (c : Slot) : Option Geometry := entry s.overrides c
def State.watch (s : State) (w : Slot) : Option Watch := entry s.watches w
def State.gang (s : State) (g : GangId) : Gang := entry s.gangs g
def State.setGang (s : State) (g : GangId) (r : Gang) : State := { s with gangs := put s.gangs g r }
def State.queue (s : State) (c : Slot) : List MoveRecord := entry s.queues c
def State.setQueue (s : State) (c : Slot) (q : List MoveRecord) : State := { s with queues := put s.queues c q }
def State.flight (s : State) (c : Slot) : Option Flight := entry s.flights c
def State.setFlight (s : State) (c : Slot) (f : Option Flight) : State := { s with flights := put s.flights c f }
def State.stand (s : State) (c : Slot) (l : Lane) : Stand := entry (entry s.stands c) l
def State.setStand (s : State) (c : Slot) (l : Lane) (r : Stand) : State :=
  { s with stands := put s.stands c (put (entry s.stands c) l r) }
def State.pointer (s : State) (c : Slot) : Lane := entry s.pointers c
def State.alert (s : State) (a : Alert) : Option AlertDetail := entry s.alerts a.bit

/-- Section `i`, numbered from 1 (R63). -/
def State.section? (s : State) (i : Nat) : Option Section :=
  match i with
  | 0 => none
  | n + 1 => s.sections[n]?

/-- A change of section `i`; no section, no change. -/
def State.changeSection (s : State) (i : Nat) (f : Section → Section) : State :=
  match i with
  | 0 => s
  | n + 1 => { s with sections := s.sections.modify n f }

/-- The section count N of the open vessel, 0 with none open. -/
def State.sectionCount (s : State) : Nat :=
  match s.vessel with
  | none => 0
  | some v => v.count

/-! ### Ports and telegrams (R177 to R179) -/

def State.port (s : State) : PortId → Port
  | .crane c => entry s.cranePorts c
  | .lane => s.lanePort
  | .gang => s.gangPort
  | .plan => s.planPort

def State.setPort (s : State) (p : PortId) (r : Port) : State :=
  match p with
  | .crane c => { s with cranePorts := put s.cranePorts c r }
  | .lane => { s with lanePort := r }
  | .gang => { s with gangPort := r }
  | .plan => { s with planPort := r }

/-- Put telegrams on a port after the first `n` that wait there. None is sent while the port is link-down (R179). -/
def State.insertTelegrams (s : State) (p : PortId) (n : Nat) (ts : List Telegram) : State :=
  if (s.port p).linkUp then
    s.setPort p { s.port p with outbox := (s.port p).outbox.take n ++ ts ++ (s.port p).outbox.drop n }
  else s

/-- Send a telegram on a port: it waits behind those already there, and is lost while the port is link-down (R179). -/
def State.send (s : State) (p : PortId) (t : Telegram) : State :=
  if (s.port p).linkUp then s.setPort p { s.port p with outbox := (s.port p).outbox ++ [t] } else s

/-- A request's event and its one reply: the reply is built after the event and leaves before any telegram that the event
caused on that port (R179). -/
def State.answer (s : State) (p : PortId) (event : State → State × List Telegram) : State :=
  (event s).1.insertTelegrams p (s.port p).outbox.length (event s).2

/-- A refusal changes nothing and answers REFUSE with its reason (R3, R179). -/
def refuse (t : RequestType) (r : Reason) (i : RefuseInfo) (s : State) : State × List Telegram :=
  (s, [.refuse t r i])

/-- A planning system's request taken, answered PLAN_ACK. -/
def planAck (a : PlanReply) (s : State) : State × List Telegram := (s, [.planAck a])

end Sys2Proof.Machine
end

