-- ==== Sys2Proof/Machine/Flags.lean ====
section
/-! DEFINITION. The alert flags and the ATTN line (chapter 9). -/

namespace Sys2Proof.Machine

/-- The twelve bits of the alert mask in ascending order (Table 11.4). -/
def all12 : List (Fin 12) := [0, 1, 2, 3, 4, 5, 6, 7, 8, 9, 10, 11]

/-- Whether ATTN is asserted: some flag that is set is also in the enable mask (R167). -/
def attnLevel (alerts : Vector (Option AlertDetail) 12) (enabled : BitVec 12) : Bool :=
  all12.any fun i => (entry alerts i).isSome && enabled.getLsbD i.val

/-- The flags that are set, as the two-byte alert mask shows them; bits 12 to 15 name no alert (Table 11.4). -/
def alertFlags (alerts : Vector (Option AlertDetail) 12) : BitVec 16 :=
  all12.foldl (fun mask i => if (entry alerts i).isSome then mask ||| BitVec.twoPow 16 i.val else mask) 0#16

/-- Re-evaluate the ATTN line (R167). -/
def State.driveAttn (s : State) : State := { s with attn := attnLevel s.alerts s.config.alertMask }

/-- Raise an alert: a clear flag is set with the detail and ATTN is re-evaluated; a set flag keeps its detail (R164). -/
def State.raise (s : State) (a : Alert) (d : AlertDetail) : State :=
  match s.alert a with
  | some _ => s
  | none => ({ s with alerts := put s.alerts a.bit (some d) } : State).driveAttn

/-- Raise an alert for the numbers it occurs for at one event; the detail kept is that of the one that counts as first
(R164, log 11). No number, no raise. -/
def State.raiseFor (s : State) (a : Alert) (ns : List Nat) (detail : Nat → AlertDetail) : State :=
  match keptFirst s.clock ns with
  | none => s
  | some n => s.raise a (detail n)

/-- The alerts with every one named by a mask cleared (R166). -/
def clearedAlerts (alerts : Vector (Option AlertDetail) 12) (mask : BitVec 16) : Vector (Option AlertDetail) 12 :=
  all12.foldl (fun v i => if mask.getLsbD i.val then put v i none else v) alerts

end Sys2Proof.Machine
end

