-- ==== Sys2Proof/Machine/Operands.lean ====
section
/-! DEFINITION. How the values a telegram carries are read and checked: enumerated fields (Table 11.4), geometry ranges
(Table 2.2), move records (R99), vessel fields (Table 1.4) and configuration items (Tables 10.2 and 10.3). -/

namespace Sys2Proof.Machine

/-! ### Enumerated fields (Table 11.4) -/

def headingOf : Nat → Option Heading
  | 1 => some .bowWest
  | 2 => some .bowEast
  | _ => none

def hatchOf : Nat → Option Hatch
  | 1 => some .fitted
  | 2 => some .lifted
  | _ => none

def taskOf : Nat → Option Task
  | 1 => some .unlash
  | 2 => some .lash
  | _ => none

def markOf : Nat → Option GroupMark
  | 0 => some .single
  | 1 => some .twinFirst
  | 2 => some .twinSecond
  | _ => none

/-- Kind and level together: DECK or HOLD for DISCHARGE and LOAD, absent for the hatch kinds (R99 checks 1 and 2). -/
def jobOf (kind level : Nat) : Option Job :=
  match kind, level with
  | 1, 1 => some (.discharge .deck)
  | 1, 2 => some (.discharge .hold)
  | 2, 1 => some (.load .deck)
  | 2, 2 => some (.load .hold)
  | 3, 0 => some .hatchOff
  | 4, 0 => some .hatchOn
  | _, _ => none

/-- A slot number a request carries. -/
def slotOf (n : Nat) : Option Slot := if h : n < 8 then some ⟨n, h⟩ else none

/-- A lane number a request carries. -/
def laneOf (n : Nat) : Option Lane := if h : n < 8 then some ⟨n, h⟩ else none

/-- A gang id a request carries. -/
def gangOf (n : Nat) : Option GangId := if h : n < 8 then some ⟨n, h⟩ else none

/-- A gap sensor line number a request carries. -/
def lineOf (n : Nat) : Option LineNo := if h : n < 7 then some ⟨n, h⟩ else none

def Job.isLoad : Job → Bool
  | .load _ => true
  | .discharge _ | .hatchOff | .hatchOn => false

def Job.isDischarge : Job → Bool
  | .discharge _ => true
  | .load _ | .hatchOff | .hatchOn => false

def Job.isHatch : Job → Bool
  | .hatchOff | .hatchOn => true
  | .discharge _ | .load _ => false

/-! ### Geometry (Table 2.2) -/

/-- A value within both ends of a range. -/
def within (lo hi n : Nat) : Bool := decide (lo ≤ n ∧ n ≤ hi)

def page1InRange (p : Page1) : Bool :=
  within 300 2500 p.westExtent && within 300 2500 p.eastExtent && within 10 200 p.deceleration &&
    within 0 2000 p.reactionTime && within 20 255 p.maxSpeed

def page2InRange (p : Page2) : Bool :=
  within 50 300 p.hoistSpeed && within 100 600 p.trolleySpeed && within 10 200 p.lockTime

def page3InRange (p : Page3) : Bool := all8.all fun l => within 0 6000 (entry p.laneOffsets l)

def geometryInRange (g : Geometry) : Bool := page1InRange g.rail && page2InRange g.hoist && page3InRange g.lanes

/-! ### Move records (R99) -/

/-- An even bay for sizes 40 and 45 and for the hatch kinds, an odd bay for size 20 (R99 check 7). -/
def bayParityFits (j : Job) (size bay : Nat) : Bool :=
  if j.isHatch then bay % 2 == 0 else if size == 20 then bay % 2 == 1 else bay % 2 == 0

/-- The checks of R99 in their order: the reason of the first that fails, or the record as it enters the pool. -/
def readMove (v : Vessel) (m : MoveRequest) : Except Reason MoveRecord :=
  match markOf m.mark, jobOf m.kind m.level with
  | some mark, some job =>
    if !(within 1 65535 m.tag && within 1 4 m.kind && (m.size == 20 || m.size == 40 || m.size == 45) &&
        within 0 600 m.height && within 0 63 m.lash) then .error .badValue
    else if !decide (m.row < v.rowCount) then .error .badValue
    else if !(if job.isHatch then m.laneMask == 0#8 && m.row == 0 && m.height == 0 && mark == .single
        else m.laneMask != 0#8) then .error .badValue
    else if !(m.lash == 0 || job == .load .deck) then .error .badValue
    else if !within 1 (2 * v.count - 1) m.bay then .error .bayRange
    else if !bayParityFits job m.size m.bay then .error .bayRange
    else if !(mark == .single || (m.size == 20 && !job.isHatch)) then .error .badValue
    else .ok { tag := m.tag, job := job, bay := m.bay, size := m.size, mark := mark, row := m.row, height := m.height,
               laneMask := m.laneMask, lash := m.lash, state := .queued }
  | _, _ => .error .badValue

/-! ### The vessel record (Table 1.4, R10, R11) -/

/-- Check 2 of R11: every field in its range, and exactly N trims. -/
def vesselOf (r : VesselRequest) : Option Vessel :=
  match headingOf r.heading with
  | none => none
  | some h =>
    if within 0 65535 r.reference && within 500 800 r.pitch && within 1 48 r.count && r.trims.length == r.count &&
        (r.trims.all fun t => decide (-300 ≤ t ∧ t ≤ 300)) && within 200 1500 r.rowZero && within 200 300 r.rowPitch &&
        within 1 25 r.rowCount then
      some { reference := r.reference, heading := h, pitch := r.pitch, count := r.count, trims := r.trims,
             rowZero := r.rowZero, rowPitch := r.rowPitch, rowCount := r.rowCount }
    else none

/-- The direction of section numbers along the rail (R10). -/
def Heading.sign : Heading → Int
  | .bowWest => 1
  | .bowEast => -1

/-- The section positions of a vessel, section 1 first, in signed arithmetic (R10). -/
def sectionPositions (v : Vessel) : List Int :=
  v.trims.mapIdx fun i t => (v.reference : Int) + v.heading.sign * i * v.pitch + t

/-- Every section position lies in the range of a rail position (R11 check 3). -/
def positionsInRange (v : Vessel) : Bool := (sectionPositions v).all fun p => decide (0 ≤ p ∧ p ≤ 65535)

/-- The outreach of a row (R16). -/
def outreach (v : Vessel) (row : Nat) : Nat := v.rowZero + row * v.rowPitch

/-! ### Bays and footprints (R13 to R15) -/

/-- The footprint of a bay: one section under an odd bay, two under an even one (R13). -/
def bayFootprint (bay : Nat) : Footprint := if bay % 2 == 1 then .one ((bay + 1) / 2) else .two (bay / 2)

/-! ### Configuration items (Tables 10.2 and 10.3) -/

/-- An item of Table 10.2, settable in SETUP only. -/
def configSetupOnly : ConfigItem → Bool
  | .grace _ | .maxRecalls _ | .checkInterval _ | .takeMode _ _ | .lookahead _ | .alertMask _ | .unknown _ => false
  | _ => true

/-- An item name of either table with a slot in 0..7 or a line in 0..6 where it takes one (R171). -/
def configNamed : ConfigItem → Bool
  | .unknown _ => false
  | .park c _ => decide (c < 8)
  | .takeMode c _ => decide (c < 8)
  | .sensorMode k _ => decide (k < 7)
  | _ => true

/-- The value lies in the item's range (Tables 10.2 and 10.3). -/
def configInRange : ConfigItem → Bool
  | .fitted v => within 0 255 v
  | .park _ v | .westLimit v | .eastLimit v => within 0 65535 v
  | .clearance v => within 100 2000 v
  | .startMargin v => within 0 500 v
  | .nearDistance v => within 500 5000 v
  | .hysteresis v => within 50 1000 v
  | .creepSpeed v => within 5 60 v
  | .bayTolerance v | .arriveTolerance v => within 5 100 v
  | .exclusionRadius v => within 0 2 v
  | .reportLimit v => within 50 1000 v
  | .linkSilence v => within 200 5000 v
  | .joinTimer v => v == 50 || v == 200 || v == 500 || v == 1000
  | .sensorMode _ v => v.isSome
  | .haltPolarity v => v.isSome
  | .permitDrive v => v.isSome
  | .grace v => within 100 3000 v
  | .maxRecalls v => within 0 7 v
  | .checkInterval v => within 600 18000 v
  | .takeMode _ v => v.isSome
  | .lookahead v => within 1 8 v
  | .alertMask v => within 0 4095 v
  | .unknown _ => false

/-- A table with the entry of a carried number replaced; no such entry, no change. -/
def putAt {α : Type} {n : Nat} (v : Vector α n) (i : Nat) (x : α) : Vector α n :=
  if h : i < n then put v ⟨i, h⟩ x else v

/-- Store one item (R171). -/
def configStore (c : ConfigSet) : ConfigItem → ConfigSet
  | .fitted v => { c with fitted := BitVec.ofNat 8 v }
  | .park k v => { c with park := putAt c.park k v }
  | .westLimit v => { c with westLimit := v }
  | .eastLimit v => { c with eastLimit := v }
  | .clearance v => { c with clearance := v }
  | .startMargin v => { c with startMargin := v }
  | .nearDistance v => { c with nearDistance := v }
  | .hysteresis v => { c with hysteresis := v }
  | .creepSpeed v => { c with creepSpeed := v }
  | .bayTolerance v => { c with bayTolerance := v }
  | .arriveTolerance v => { c with arriveTolerance := v }
  | .exclusionRadius v => { c with exclusionRadius := v }
  | .reportLimit v => { c with reportLimit := v }
  | .linkSilence v => { c with linkSilence := v }
  | .joinTimer v => { c with joinTimer := v }
  | .sensorMode k v => { c with sensorModes := putAt c.sensorModes k (v.getD .disabled) }
  | .haltPolarity v => { c with haltPolarity := v.getD c.haltPolarity }
  | .permitDrive v => { c with permitDrive := v.getD c.permitDrive }
  | .grace v => { c with grace := v }
  | .maxRecalls v => { c with maxRecalls := v }
  | .checkInterval v => { c with checkInterval := v }
  | .takeMode k v => { c with takeModes := putAt c.takeModes k (v.getD .inOrder) }
  | .lookahead v => { c with lookahead := v }
  | .alertMask v => { c with alertMask := BitVec.ofNat 12 v }
  | .unknown _ => c

/-- The value now stored for an item, as the PLAN_ACK of a CONFIG carries it (R171). -/
def configStored (c : ConfigSet) : ConfigItem → ConfigItem
  | .fitted _ => .fitted c.fitted.toNat
  | .park k v => .park k (match slotOf k with | some i => entry c.park i | none => v)
  | .westLimit _ => .westLimit c.westLimit
  | .eastLimit _ => .eastLimit c.eastLimit
  | .clearance _ => .clearance c.clearance
  | .startMargin _ => .startMargin c.startMargin
  | .nearDistance _ => .nearDistance c.nearDistance
  | .hysteresis _ => .hysteresis c.hysteresis
  | .creepSpeed _ => .creepSpeed c.creepSpeed
  | .bayTolerance _ => .bayTolerance c.bayTolerance
  | .arriveTolerance _ => .arriveTolerance c.arriveTolerance
  | .exclusionRadius _ => .exclusionRadius c.exclusionRadius
  | .reportLimit _ => .reportLimit c.reportLimit
  | .linkSilence _ => .linkSilence c.linkSilence
  | .joinTimer _ => .joinTimer c.joinTimer
  | .sensorMode k v => .sensorMode k (match lineOf k with | some i => some (entry c.sensorModes i) | none => v)
  | .haltPolarity _ => .haltPolarity (some c.haltPolarity)
  | .permitDrive _ => .permitDrive (some c.permitDrive)
  | .grace _ => .grace c.grace
  | .maxRecalls _ => .maxRecalls c.maxRecalls
  | .checkInterval _ => .checkInterval c.checkInterval
  | .takeMode k v => .takeMode k (match slotOf k with | some i => some (entry c.takeModes i) | none => v)
  | .lookahead _ => .lookahead c.lookahead
  | .alertMask _ => .alertMask c.alertMask.toNat
  | .unknown name => .unknown name

end Sys2Proof.Machine
end

