-- ==== Sys2Proof/Machine/Span.lean ====
section
/-! DEFINITION. The Span Computer's shared operations (chapters 1 to 3): neighbours, geometry in force, stopping distances,
windows, the clearance watch, trips, permit conditions, and the re-evaluation that brings them all up to date. -/

namespace Sys2Proof.Machine

/-! ### Slots and neighbours (R6, R7) -/

def ConfigSet.isFitted (cfg : ConfigSet) (c : Slot) : Bool := has cfg.fitted c

def State.fitted (s : State) (c : Slot) : Bool := s.config.isFitted c

/-- The nearest fitted slot of lower number (R7). -/
def ConfigSet.westNeighbour (cfg : ConfigSet) (c : Slot) : Option Slot :=
  all8.reverse.find? fun d => decide (d < c) && cfg.isFitted d

/-- The nearest fitted slot of higher number (R7). -/
def ConfigSet.eastNeighbour (cfg : ConfigSet) (c : Slot) : Option Slot :=
  all8.find? fun d => decide (c < d) && cfg.isFitted d

def State.west (s : State) (c : Slot) : Option Slot := s.config.westNeighbour c
def State.east (s : State) (c : Slot) : Option Slot := s.config.eastNeighbour c

/-- The east neighbour of a slot that is itself fitted: the two form a neighbouring pair (R7). -/
def ConfigSet.pairEast (cfg : ConfigSet) (w : Slot) : Option Slot :=
  if cfg.isFitted w then cfg.eastNeighbour w else none

/-- The fitted slots, ascending. -/
def State.fittedSlots (s : State) : List Slot := all8.filter s.fitted

/-- A fitted crane and both its neighbours: the cranes a change of this crane re-evaluates (R41). -/
def State.concern (s : State) (c : Slot) : List Slot :=
  if s.fitted c then c :: ((s.west c).toList ++ (s.east c).toList) else []

/-! ### Geometry in force (R18) -/

def State.geometry (s : State) (c : Slot) : Geometry :=
  match s.override c, (s.crane c).declared with
  | some g, _ => g
  | none, some g => g
  | none, none => defaultGeometry

def State.geometrySource (s : State) (c : Slot) : Option GeometrySource :=
  match s.override c, (s.crane c).declared with
  | some _, _ => some .plan
  | none, some _ => some .crane
  | none, none => none

/-! ### Stopping distance, position used, occupied interval (R35 to R37) -/

/-- The stopping distance of a crane of this geometry at a speed (R35). -/
def stoppingDistance (g : Geometry) (v : Nat) : Nat :=
  ceilDiv (v * g.rail.reactionTime) 1000 + ceilDiv (v * v) (2 * g.rail.deceleration)

/-- The position used for a crane: its last position, or its park position while it has never reported (R36, R8). -/
def State.positionUsed (s : State) (c : Slot) : Nat :=
  match (s.crane c).lastPosition with
  | some p => p
  | none => entry s.config.park c

/-- Whether a neighbour counts as uncertain (R37). -/
def State.uncertain (s : State) (c : Slot) : Bool :=
  !((s.crane c).slotState == .active && (s.crane c).lastPosition.isSome)

/-- The west end of a crane's extended position range (R36). -/
def State.rangeWest (s : State) (c : Slot) : Nat :=
  match (s.spanOf c).goal with
  | some g => min (s.positionUsed c) g
  | none => s.positionUsed c

/-- The east end of a crane's extended position range (R36). -/
def State.rangeEast (s : State) (c : Slot) : Nat :=
  match (s.spanOf c).goal with
  | some g => max (s.positionUsed c) g
  | none => s.positionUsed c

/-- The widening of an uncertain neighbour (R37). -/
def State.widening (s : State) (c : Slot) : Nat :=
  if s.uncertain c then stoppingDistance (s.geometry c) (s.geometry c).rail.maxSpeed else 0

/-- A neighbour's toward speed to a crane on its west: 0 for an uncertain neighbour (R37, R1). -/
def State.towardWest (s : State) (c : Slot) : Nat := if s.uncertain c then 0 else westSpeed (s.crane c).lastVelocity

/-- A neighbour's toward speed to a crane on its east (R37, R1). -/
def State.towardEast (s : State) (c : Slot) : Nat := if s.uncertain c then 0 else eastSpeed (s.crane c).lastVelocity

/-! ### The window (R38 to R40) -/

/-- The west face of a crane's occupied interval (R38). -/
def State.westFace (s : State) (d : Slot) : Int :=
  (s.rangeWest d : Int) - (s.geometry d).rail.westExtent - s.widening d

/-- The east face of a crane's occupied interval (R39). -/
def State.eastFace (s : State) (b : Slot) : Int :=
  (s.rangeEast b : Int) + (s.geometry b).rail.eastExtent + s.widening b

/-- The computed east bound hi (R38). -/
def State.eastBound (s : State) (c : Slot) : Int :=
  match s.east c with
  | some d =>
    s.westFace d - s.config.clearance - stoppingDistance (s.geometry d) (s.towardWest d) -
      (s.geometry c).rail.eastExtent
  | none => (s.config.eastLimit : Int) - (s.geometry c).rail.eastExtent

/-- The computed west bound lo (R39). -/
def State.westBound (s : State) (c : Slot) : Int :=
  match s.west c with
  | some b =>
    s.eastFace b + s.config.clearance + stoppingDistance (s.geometry b) (s.towardEast b) +
      (s.geometry c).rail.westExtent
  | none => (s.config.westLimit : Int) + (s.geometry c).rail.westExtent

/-- The window as the present inputs give it. -/
def State.bounds (s : State) (c : Slot) : Window := { lo := s.westBound c, hi := s.eastBound c }

/-- The window of the latest re-evaluation; a slot that has had none is taken as the present inputs give it (log 21). -/
def State.window (s : State) (c : Slot) : Window :=
  match (s.spanOf c).window with
  | some w => w
  | none => s.bounds c

/-- A window is empty when the computed lo exceeds the computed hi (R40). -/
def Window.isEmpty (w : Window) : Bool := decide (w.hi < w.lo)

/-- A bound was held to be reported (R40). -/
def Window.held (w : Window) : Bool :=
  !(decide (0 ≤ w.lo ∧ w.lo ≤ 65535) && decide (0 ≤ w.hi ∧ w.hi ≤ 65535))

/-! ### The clearance watch (R50, R51) -/

/-- The physical gap of a pair (R50). -/
def State.gap (s : State) (w e : Slot) : Int :=
  ((s.positionUsed e : Int) - (s.geometry e).rail.westExtent) -
    ((s.positionUsed w : Int) + (s.geometry w).rail.eastExtent)

/-- The watch state of a pair after its gap is computed; a pair new to the watch starts by its gap alone (R51). -/
def watchAfter (cfg : ConfigSet) (old : Option Watch) (gap : Int) : Watch :=
  match old with
  | some .near => if (cfg.nearDistance : Int) + cfg.hysteresis ≤ gap then .clear else .near
  | some .clear | none => if gap < cfg.nearDistance then .near else .clear

/-- The watch states after the cranes named are re-evaluated: every pair of one of them is recomputed (R50). -/
def State.watchesAfter (s : State) (cs : List Slot) : Vector (Option Watch) 8 :=
  table8 fun w =>
    match s.config.pairEast w with
    | none => s.watch w
    | some e => if cs.contains w || cs.contains e then some (watchAfter s.config (s.watch w) (s.gap w e)) else s.watch w

/-! ### Gap sensor lines (R53 to R55) -/

/-- The slots on the two sides of a line. -/
def lineWest (k : LineNo) : Slot := ⟨k.val, by omega⟩
def lineEast (k : LineNo) : Slot := ⟨k.val + 1, by omega⟩

/-- Line `k` serves a pair: slots k and k+1 both fitted and its mode not DISABLED (R53). -/
def ConfigSet.serves (cfg : ConfigSet) (k : LineNo) : Bool :=
  cfg.isFitted (lineWest k) && cfg.isFitted (lineEast k) && entry cfg.sensorModes k != .disabled

/-- Whether a mode with this level and latch holds its pair tripped (R54, R55). -/
def tripHeld (m : SensorMode) (level : Level) (latch : Bool) : Bool :=
  match m with
  | .disabled => false
  | .rise | .fall | .both => latch
  | .high => level == .high
  | .low => level == .low

/-- The trip state of line `k`'s pair (R54, R55). -/
def State.tripped (s : State) (k : LineNo) : Bool :=
  s.config.serves k && tripHeld (entry s.config.sensorModes k) (entry s.sensorLevels k) (entry s.latches k)

/-- The line between a slot and the slot of next higher number. -/
def lineEastOf (c : Slot) : Option LineNo := lineOf c.val

/-- The line between a slot and the slot of next lower number. -/
def lineWestOf (c : Slot) : Option LineNo := if c.val = 0 then none else lineOf (c.val - 1)

/-- The sensor pair on a crane's east side is tripped. -/
def State.trippedEast (s : State) (c : Slot) : Bool :=
  match lineEastOf c with
  | some k => s.tripped k
  | none => false

/-- The sensor pair on a crane's west side is tripped. -/
def State.trippedWest (s : State) (c : Slot) : Bool :=
  match lineWestOf c with
  | some k => s.tripped k
  | none => false

/-! ### Permit conditions (R47) -/

/-- What both permits of a crane need: OPERATING, no halt, ACTIVE, no group in flight (R47). -/
def State.mayTravel (s : State) (c : Slot) : Bool :=
  s.mode == .operating && !s.halted && (s.crane c).slotState == .active && (s.flight c).isNone

/-- The watch of a crane's east pair shows NEAR. -/
def State.eastNear (s : State) (c : Slot) : Bool := (s.east c).isSome && s.watch c == some .near

/-- The watch of a crane's west pair shows NEAR. -/
def State.westNear (s : State) (c : Slot) : Bool :=
  match s.west c with
  | some b => s.watch b == some .near
  | none => false

/-- The east permit condition against a window (R47). -/
def State.eastCondition (s : State) (c : Slot) (w : Window) : Bool :=
  let u := eastSpeed (s.crane c).lastVelocity
  s.mayTravel c && !s.trippedEast c &&
    decide ((s.positionUsed c : Int) + max s.config.startMargin (stoppingDistance (s.geometry c) u) ≤ w.hi) &&
    (!s.eastNear c || decide (u ≤ s.config.creepSpeed))

/-- The west permit condition against a window (R47). -/
def State.westCondition (s : State) (c : Slot) (w : Window) : Bool :=
  let u := westSpeed (s.crane c).lastVelocity
  s.mayTravel c && !s.trippedWest c &&
    decide (w.lo ≤ (s.positionUsed c : Int) - max s.config.startMargin (stoppingDistance (s.geometry c) u)) &&
    (!s.westNear c || decide (u ≤ s.config.creepSpeed))

/-! ### Re-evaluation (R41) -/

/-- The empty mark a re-evaluation gives a crane (R42). -/
def State.emptyMarkNow (s : State) (c : Slot) : Bool :=
  s.mode == .operating && (s.bounds c).isEmpty && (s.crane c).slotState == .active

/-- A crane's span record after its re-evaluation: window, empty mark and permit lines anew, the goal as it stands. -/
def State.evaluated (s : State) (c : Slot) : SpanRecord where
  window := some (s.bounds c)
  goal := (s.spanOf c).goal
  eastPermit := s.eastCondition c (s.bounds c)
  westPermit := s.westCondition c (s.bounds c)
  emptyMark := s.emptyMarkNow c

/-- The cranes named whose empty mark goes from clear to set (R42). -/
def State.newlyEmpty (s : State) (cs : List Slot) : List Slot :=
  all8.filter fun c => cs.contains c && s.fitted c && s.emptyMarkNow c && !(s.spanOf c).emptyMark

/-- The slot a number names, for numbers below eight. -/
def slotOfNat (n : Nat) : Slot := ⟨n % 8, by omega⟩

/-- Drive the span records of the cranes named from the inputs and watch states as they stand. -/
def State.driveSpan (s : State) (cs : List Slot) : State :=
  { s with span := table8 fun c => if cs.contains c && s.fitted c then s.evaluated c else s.spanOf c }

/-- Re-evaluate the fitted cranes among those named: windows, then the watch states of their pairs, then permit conditions
and lines (R41); WINDOW_EMPTY is raised for a mark that goes from clear to set (R42). -/
def State.reevaluate (s : State) (cs : List Slot) : State :=
  (({ s with watches := s.watchesAfter cs } : State).driveSpan cs).raiseFor .windowEmpty
    ((s.newlyEmpty cs).map fun c => c.val) fun n => .crane (slotOfNat n) s.clock

/-- What the east permit line of a slot does at its terminals, in the drive configured for all sixteen (R49). -/
def State.eastLine (s : State) (c : Slot) : LineDrive := lineDrive s.config.permitDrive (s.spanOf c).eastPermit

/-- What the west permit line of a slot does at its terminals (R49). -/
def State.westLine (s : State) (c : Slot) : LineDrive := lineDrive s.config.permitDrive (s.spanOf c).westPermit

/-- Clear a crane's goal. -/
def State.clearGoal (s : State) (c : Slot) : State := s.setSpan c { s.spanOf c with goal := none }

/-! ### Trips begin (R56) -/

/-- SENSOR_TRIP for the lines whose trip begins, and SENSOR_DISAGREE for those whose pair's physical gap is at least the
near distance (R56). -/
def State.raiseTrips (s : State) (ks : List LineNo) : State :=
  let number : Nat → LineNo := fun n => ⟨n % 7, by omega⟩
  let gapOf : LineNo → Int := fun k => s.gap (lineWest k) (lineEast k)
  (s.raiseFor .sensorTrip (ks.map fun k => k.val) fun n => .line (number n) s.clock).raiseFor .sensorDisagree
    ((ks.filter fun k => decide ((s.config.nearDistance : Int) ≤ gapOf k)).map fun k => k.val)
    fun n => .gap (number n) (gapOf (number n)) s.clock

/-! ### The WINDOW telegram (R60) -/

/-- WINDOW as the values stand (R60). -/
def State.windowReply (s : State) (c : Slot) (clamped : Bool) : Telegram :=
  .window {
    lo := heldPosition (s.window c).lo
    hi := heldPosition (s.window c).hi
    eastPermit := (s.spanOf c).eastPermit
    westPermit := (s.spanOf c).westPermit
    eastNear := s.eastNear c
    westNear := s.westNear c
    eastUncertain := (s.east c).any s.uncertain
    westUncertain := (s.west c).any s.uncertain
    goal := (s.spanOf c).goal
    saturated := (s.window c).held
    clamped := clamped }

/-! ### A crane lost (R30 to R32) -/

/-- A slot in JOINING, STALE or ACTIVE goes to DOWN by LEAVE or link silence: a join in progress is abandoned, the timers
stop, the goal is cleared, CRANE_LOST is raised, and the crane and its neighbours are re-evaluated (R30, R31, R32). -/
def State.craneLost (s : State) (c : Slot) : State :=
  (((s.setCrane c { s.crane c with slotState := .down, joinTimer := none, reportTimer := none }).clearGoal c).raise
    .craneLost (.crane c s.clock)).reevaluate (s.concern c)

end Sys2Proof.Machine
end

