-- ==== Sys2Proof/Machine/Berth.lean ====
section
/-! DEFINITION. The Section Table's shared operations (chapter 4): the exclusion radius, claims, grants of waiting gangs,
and the changes of counters and hatches. -/

namespace Sys2Proof.Machine

/-- The section numbers of the open vessel, ascending. -/
def State.sectionNumbers (s : State) : List Nat := (List.range s.sections.length).map (· + 1)

/-- Sections `i` and `j` lie within the exclusion radius of each other (R73). -/
def State.inRadius (s : State) (i j : Nat) : Bool := decide (distance i j ≤ s.config.exclusionRadius)

/-- Some section within the radius of section `i` passes a test. -/
def State.anyInRadius (s : State) (i : Nat) (test : Section → Bool) : Bool :=
  s.sectionNumbers.any fun j => s.inRadius i j && (s.section? j).any test

/-- Some section within the radius of section `i` is claimed (R75, R76). -/
def State.claimNear (s : State) (i : Nat) : Bool := s.anyInRadius i fun r => r.claim.isSome

/-- A gang of the roster becomes ABOARD at a grant, checked in at the grant's time, and its GRANT is sent (R76, R87). -/
def State.boardWaiting (s : State) (g : GangId) (i : Nat) : State :=
  (match s.gang g with
    | .waiting head sec task => s.setGang g (.aboard head sec task s.clock false)
    | _ => s).send .gang (.grant g i)

/-- Consider section `i` for a grant (R76). -/
def State.consider (s : State) (i : Nat) : State :=
  match s.section? i with
  | none => s
  | some r =>
    match r.waiting with
    | [] => s
    | g :: rest =>
      if r.gang.isNone && !s.claimNear i then
        (s.changeSection i fun r => { r with gang := some g, waiting := rest }).boardWaiting g i
      else s

/-- Claim every section of a footprint for a crane (R71). -/
def State.claim (s : State) (c : Slot) (f : Footprint) : State :=
  f.sections.foldl (fun s i => s.changeSection i fun r => { r with claim := some c }) s

/-- Clear the claims of a footprint. -/
def State.unclaim (s : State) (f : Footprint) : State :=
  f.sections.foldl (fun s i => s.changeSection i fun r => { r with claim := none }) s

/-- Release a footprint: clear its claims, then consider in ascending order every section within the radius of one of its
sections (R72). -/
def State.releaseFootprint (s : State) (f : Footprint) : State :=
  (s.sectionNumbers.filter fun i => f.sections.any (s.inRadius i)).foldl State.consider (s.unclaim f)

/-! ### Counters (R66 to R69) -/

/-- A counting change down, held at 0 (R66). -/
def countDown (counter n : Nat) : Nat := counter - n

/-- A counting change up, held at the range end (R66). -/
def countUp (top counter n : Nat) : Nat := min top (counter + n)

/-- The counter a task works on (R67). -/
def Section.counter (r : Section) : Task → Nat
  | .unlash => r.unlash
  | .lash => r.lash

/-- Set the counter a task works on. -/
def Section.setCounter (r : Section) (t : Task) (n : Nat) : Section :=
  match t with
  | .unlash => { r with unlash := n }
  | .lash => { r with lash := n }

/-- The counter of section `i` for a task. -/
def State.counter (s : State) (i : Nat) (t : Task) : Nat := ((s.section? i).map fun r => r.counter t).getD 0

/-- UNITS at the Section Table: take `n` off the counter of the gang's task, raising COUNT_OVERRUN on an overrun (R67). -/
def State.countUnits (s : State) (g : GangId) (i : Nat) (t : Task) (n : Nat) : State :=
  let s' := s.changeSection i fun r => r.setCounter t (countDown (r.counter t) n)
  if s.counter i t < n then s'.raise .countOverrun (.gang g i s.clock) else s'

/-- The landing of one move of a LOAD DECK group: 1 on the deck tally of each of its sections, its lash units on the lash
owed of the lowest (R68, R69). -/
def State.loadDeckLanded (s : State) (m : MoveRecord) : State :=
  let f := bayFootprint m.bay
  let s := f.sections.foldl (fun s i => s.changeSection i fun r => { r with tally := countUp 255 r.tally 1 }) s
  s.changeSection f.lowest fun r => { r with lash := countUp 1023 r.lash m.lash }

/-- A value was held at the landing of one LOAD DECK move (R68, R69). -/
def State.loadDeckHeld (s : State) (m : MoveRecord) : Bool :=
  let f := bayFootprint m.bay
  (f.sections.any fun i => (s.section? i).any fun r => decide (255 < r.tally + 1)) ||
    (s.section? f.lowest).any fun r => decide (1023 < r.lash + m.lash)

/-- The sections of one DISCHARGE DECK move whose deck tally is held at 0 (R69). -/
def State.tallyLowAt (s : State) (m : MoveRecord) : List Nat :=
  (bayFootprint m.bay).sections.filter fun i => (s.section? i).any fun r => r.tally == 0

/-- The landing of one move of a DISCHARGE DECK group: 1 off the deck tally of each of its sections, TALLY_LOW where it is
held at 0 (R69). -/
def State.dischargeDeckLanded (s : State) (m : MoveRecord) : State :=
  ((bayFootprint m.bay).sections.foldl
    (fun s i => s.changeSection i fun r => { r with tally := countDown r.tally 1 }) s).raiseFor .tallyLow
      (s.tallyLowAt m) fun i => .tally i m.tag s.clock

/-- The hatch change of a HATCH_OFF or HATCH_ON landing (R70). -/
def State.setHatches (s : State) (f : Footprint) (h : Hatch) : State :=
  f.sections.foldl (fun s i => s.changeSection i fun r => { r with hatch := h }) s

/-- What a landing changes on the sections, the moves of a twin in queue order, with whether a value was held
(R130 step 1). -/
def State.landed (s : State) (job : Job) (f : Footprint) (moves : List MoveRecord) : State × Bool :=
  match job with
  | .load .deck =>
    moves.foldl (fun acc m => (acc.1.loadDeckLanded m, acc.2 || acc.1.loadDeckHeld m)) (s, false)
  | .discharge .deck =>
    moves.foldl (fun acc m => (acc.1.dischargeDeckLanded m, acc.2 || !(acc.1.tallyLowAt m).isEmpty)) (s, false)
  | .hatchOff => (s.setHatches f .lifted, false)
  | .hatchOn => (s.setHatches f .fitted, false)
  | .load .hold | .discharge .hold => (s, false)

/-! ### Work positions (R15) -/

/-- The position of section `i`, 0 where there is none. -/
def State.sectionPosition (s : State) (i : Nat) : Nat := ((s.section? i).map fun r => r.position).getD 0

/-- The rail position at which a crane works a footprint (R15). -/
def State.workPosition (s : State) : Footprint → Nat
  | .one i => s.sectionPosition i
  | .two i => mean (s.sectionPosition i) (s.sectionPosition (i + 1))

end Sys2Proof.Machine
end

