-- ==== Sys2Proof/Machine/Store.lean ====
section
/-! DEFINITION. The Move Store's shared operations (chapter 6): the pool, the queues and the walk that finds their groups. -/

namespace Sys2Proof.Machine

/-! ### Groups (R102 to R104) -/

/-- A group as the walk of a queue finds it (R102). -/
inductive Group where
  | single (m : MoveRecord)
  | twin (a b : MoveRecord)
  | incomplete (m : MoveRecord)
  deriving DecidableEq, Repr

/-- A TWIN_SECOND matches the TWIN_FIRST before it (R103). -/
def twinMatches (a b : MoveRecord) : Bool :=
  a.mark == .twinFirst && b.mark == .twinSecond && a.job == b.job && a.size == 20 && b.size == 20 &&
    distance a.bay b.bay == 2

/-- An entry not taken into a twin: a SINGLE forms a group, any other an incomplete one (R102). -/
def Group.alone (m : MoveRecord) : Group := if m.mark == .single then .single m else .incomplete m

/-- The groups of a queue, walked from its head (R102). -/
def groupsOf : List MoveRecord → List Group
  | [] => []
  | [m] => [Group.alone m]
  | a :: b :: rest =>
    if twinMatches a b then .twin a b :: groupsOf rest else Group.alone a :: groupsOf (b :: rest)

/-- The moves of a group, in queue order. -/
def Group.moves : Group → List MoveRecord
  | .single m | .incomplete m => [m]
  | .twin a b => [a, b]

/-- The first move of a group. -/
def Group.firstMove : Group → MoveRecord
  | .single m | .incomplete m => m
  | .twin a _ => a

/-- The second move of a twin. -/
def Group.secondMove : Group → Option MoveRecord
  | .single _ | .incomplete _ => none
  | .twin _ b => some b

/-- The footprint of a group: that of its bay, or of the even bay between the two bays of a twin (R14, Table 6.3). -/
def Group.footprint : Group → Footprint
  | .single m | .incomplete m => bayFootprint m.bay
  | .twin a b => bayFootprint ((a.bay + b.bay) / 2)

/-- The group standing of a move in the read-out (R113). -/
def Group.standing : Group → Standing
  | .single _ => .single
  | .twin _ _ => .twin
  | .incomplete _ => .incomplete

/-- The number, from 1, and the group of the entry at a queue index (R113). -/
def groupAt : List Group → Nat → Option (Nat × Group)
  | [], _ => none
  | g :: rest, i =>
    if i < g.moves.length then some (1, g)
    else (groupAt rest (i - g.moves.length)).map fun r => (r.1 + 1, r.2)

/-! ### The pool (R100) -/

/-- The number of records in the pool: the sum of the eight queue lengths (R100). -/
def State.poolCount (s : State) : Nat := (all8.map fun c => (s.queue c).length).sum

/-- The index of a tag in a queue. -/
def indexOfTag (q : List MoveRecord) (tag : Nat) : Option Nat := q.findIdx? fun m => m.tag == tag

/-- The record of a tag in a queue. -/
def recordOfTag (q : List MoveRecord) (tag : Nat) : Option MoveRecord := q.find? fun m => m.tag == tag

/-- The crane whose queue holds a tag. -/
def State.holderOf (s : State) (tag : Nat) : Option Slot :=
  all8.find? fun c => (s.queue c).any fun m => m.tag == tag

/-- A tag is in the pool (R100). -/
def State.inPool (s : State) (tag : Nat) : Bool := (s.holderOf tag).isSome

/-- The records of a group in flight, in its order. -/
def State.flightRecords (s : State) (c : Slot) (f : Flight) : List MoveRecord :=
  f.tags.filterMap (recordOfTag (s.queue c))

/-- Set the state of the records with the given tags, each at its index (R115). -/
def State.markRecords (s : State) (c : Slot) (tags : List Nat) (st : MoveState) : State :=
  s.setQueue c ((s.queue c).map fun m => if tags.contains m.tag then { m with state := st } else m)

/-- Remove the records with the given tags from their queue and the pool (R115). -/
def State.removeRecords (s : State) (c : Slot) (tags : List Nat) : State :=
  s.setQueue c ((s.queue c).filter fun m => !tags.contains m.tag)

end Sys2Proof.Machine
end

