-- ==== Sys2Proof/Machine/Stands.lean ====
section
/-! DEFINITION. The Stand Dispatcher's shared operations (chapter 8): lane choice, lead time, calls, lapses, releases, and
the resync of the lane link. -/

namespace Sys2Proof.Machine

/-! ### Lane choice and lead time (R143, R144) -/

/-- The lanes common to the moves of a group (Table 6.3). -/
def groupLaneMask : List MoveRecord → Mask
  | [] => 0#8
  | [m] => m.laneMask
  | m :: rest => m.laneMask &&& groupLaneMask rest

/-- A lane is eligible for a crane's request (R143). -/
def State.eligible (s : State) (c : Slot) (mask : Mask) (l : Lane) : Bool :=
  has (s.geometry c).lanes.laneMask l && has mask l && has s.laneMask l && s.stand c l == .free

/-- The lanes in the order a search examines them: the lane after the rotation pointer first, wrapping (R143). -/
def lanesAfter (p : Lane) : List Lane := all8.map fun i => p + 1 + i

/-- The first eligible lane of a search (R143). -/
def State.chooseLane (s : State) (c : Slot) (mask : Mask) : Option Lane :=
  (lanesAfter (s.pointer c)).find? (s.eligible c mask)

/-- The trolley's time from a lane to a row, in deciseconds (R144). -/
def State.trolleyTime (s : State) (c : Slot) (l : Lane) (row : Nat) : Nat :=
  let reach := match s.vessel with
    | some v => outreach v row
    | none => 0
  ceilDiv ((reach + entry (s.geometry c).lanes.laneOffsets l) * 10) (s.geometry c).hoist.trolleySpeed

/-- The hoist's time over a height in decimetres, in deciseconds (R144). -/
def State.hoistTime (s : State) (c : Slot) (height : Nat) : Nat :=
  ceilDiv (height * 100) (s.geometry c).hoist.hoistSpeed

/-- The lead time as computed, before it is held within 0..6000 (R144). -/
def State.leadComputed (s : State) (c : Slot) (l : Lane) (job : Job) (m : MoveRecord) : Nat :=
  if job.isLoad then s.trolleyTime c l m.row
  else (s.geometry c).hoist.lockTime + 2 * s.hoistTime c m.height + s.trolleyTime c l m.row

/-! ### Calls (R145, R146) -/

/-- The number after a call number, continuing at 1 after 65535 (R146). -/
def nextCall (n : Nat) : Nat := if n = 65535 then 1 else n + 1

/-- The CALL telegram of a CALLED stand, sent at the making of the call and again at a resync (R146, R157). -/
def callNotice (c : Slot) (l : Lane) (k : Call) (due : Time) (leadHeld : Bool) : Telegram :=
  .call { number := k.number, slot := c, lane := l, railPosition := k.railPosition, due := due,
          direction := k.direction, size := k.size, saturated := leadHeld, tags := k.tags }

/-- Make the call of a crane's request in a lane (R145, R146). `m` is the group's first move. -/
def State.makeCall (s : State) (c : Slot) (f : Flight) (m : MoveRecord) (l : Lane) : State :=
  let computed := s.leadComputed c l f.job m
  let lead := min 6000 computed
  let due := s.clock + BitVec.ofNat 32 lead
  let call : Call := { number := s.callCounter, tags := f.tags,
                       direction := if f.job.isLoad then .deliver else .receive,
                       size := m.size, railPosition := f.workPosition }
  let deadline := due + BitVec.ofNat 32 s.config.grace
  (({ s with
      pointers := put s.pointers c l
      callCounter := nextCall s.callCounter } : State).setStand c l
        (.called call due deadline (decide (6000 < computed)))).setFlight c
          (some { f with truck := .called, lane := some l }) |>.send .lane
            (callNotice c l call due (decide (6000 < computed)))

/-- Attempt a crane's PENDING truck request: only while the lane port is link-up, and changing nothing when no lane is
eligible (R142). -/
def State.attempt (s : State) (c : Slot) : State :=
  match s.flight c with
  | none => s
  | some f =>
    if f.truck == .pending && s.lanePort.linkUp then
      match s.flightRecords c f with
      | [] => s
      | m :: rest =>
        match s.chooseLane c (groupLaneMask (m :: rest)) with
        | none => s
        | some l => s.makeCall c f m l
    else s

/-- Attempt every PENDING request, in ascending order of crane slot (R141, R157). -/
def State.attemptAll (s : State) : State := all8.foldl State.attempt s

/-! ### Withdrawing a call, sending a truck away (R153, R154) -/

/-- CANCEL a CALLED stand, which becomes FREE (R154). -/
def State.cancelStand (s : State) (c : Slot) (l : Lane) : State :=
  match s.stand c l with
  | .called k _ _ _ => (s.setStand c l .free).send .lane (.cancel k.number c l)
  | _ => s

/-- DEPART an OCCUPIED stand, which becomes RELEASED (R153). -/
def State.departStand (s : State) (c : Slot) (l : Lane) : State :=
  match s.stand c l with
  | .occupied k truck => (s.setStand c l (.released k.number truck)).send .lane (.depart k.number c l truck)
  | _ => s

/-- The truck of an ending group released according to its truck state (Table 7.5, R136). -/
def State.releaseTruck (s : State) (c : Slot) (f : Flight) : State :=
  match f.lane with
  | none => s
  | some l =>
    match f.truck with
    | .called => s.cancelStand c l
    | .present => s.departStand c l
    | .notNeeded | .pending | .departed | .failed => s

/-! ### Lapses (R148 to R151) -/

/-- The alert of a lapse beyond the maximum recalls (R150). -/
def LostCause.alert : LostCause → Alert
  | .late => .truckLate
  | .gone => .truckGone

/-- The group's truck becomes FAILED: the lane is removed, the truck id kept, STAND_LOST is sent to the crane and the alert
is raised (R150, R151). DESIGN CHOICE (log 36): with the slot DOWN and its port link-up the notice waits on the port like
any other. -/
def State.failTruck (s : State) (c : Slot) (f : Flight) (l : Lane) (cause : LostCause) : State :=
  ((s.setFlight c (some { f with truck := .failed, lane := none })).send (.crane c)
    (.standLost f.first l cause)).raise cause.alert (.truck c f.first l s.clock)

/-- A lapsed call is counted against the crane's group, and re-called or failed (R150). -/
def State.lapse (s : State) (c : Slot) (l : Lane) (cause : LostCause) : State :=
  match s.flight c with
  | none => s
  | some f =>
    let lapsed := f.recallCount + 1
    if lapsed ≤ s.config.maxRecalls then
      (s.setFlight c (some { f with
        truck := .pending, lane := none, truckId := none, recallCount := min 7 lapsed })).attempt c
    else s.failTruck c { f with recallCount := min 7 lapsed } l cause

/-- CLEAR of a RELEASED stand: it becomes FREE and the crane's PENDING request is attempted (R155). -/
def State.clearStand (s : State) (c : Slot) (l : Lane) : State := (s.setStand c l .free).attempt c

/-! ### The lane link (R157) -/

/-- What the resync sends for one stand (R157). -/
def resyncNotice (c : Slot) (l : Lane) : Stand → List Telegram
  | .called k due _ held => [callNotice c l k due held]
  | .released number truck => [.depart number c l truck]
  | .free | .occupied _ _ => []

/-- What the resync sends, in ascending order of slot and lane (R157). -/
def State.resyncNotices (s : State) : List Telegram :=
  all8.flatMap fun c => all8.flatMap fun l => resyncNotice c l (s.stand c l)

/-- The lane port comes up: CALLs and DEPARTs again, then every PENDING request (R157). -/
def State.laneLinkUp (s : State) : State :=
  (s.resyncNotices.foldl (fun s t => s.send .lane t) s).attemptAll

/-! ### A valid telegram at a port (R176, R178) -/

/-- A valid telegram on a port: its receiver returns to HUNT, a link-down port comes up with the effects of its owner
before the telegram is taken, and the silence timer starts or restarts (R176, R178). -/
def State.telegramIn (s : State) (p : PortId) : State :=
  let up := s.setPort p { s.port p with rx := .hunt, linkUp := true, silence := some s.config.linkSilence }
  if (s.port p).linkUp then up
  else
    match p with
    | .lane => up.laneLinkUp
    | .crane _ | .gang | .plan => up

/-- A request on a port: the telegram is valid for the link; a malformed body is answered REFUSE with BAD_VALUE and changes
nothing (R177); otherwise the event takes it and its reply is sent (R179). DESIGN CHOICE (log 5): the length check comes
before every check of the request's own rule, on a fitted slot as on an unfitted one. -/
def State.request {α : Type} (s : State) (p : PortId) (t : RequestType) (b : Body α)
    (event : α → State → State × List Telegram) : Host.Outcome State Fault Refusal :=
  .next ((s.telegramIn p).answer p (match b with
    | .malformed => refuse t .badValue .none
    | .fields x => event x))

/-- A request on a crane port: on the port of an unfitted slot it is refused with NOT_ACTIVE (R6). -/
def State.craneRequest {α : Type} (s : State) (c : Slot) (t : RequestType) (b : Body α)
    (event : α → State → State × List Telegram) : Host.Outcome State Fault Refusal :=
  s.request (.crane c) t b fun x s => if s.fitted c then event x s else refuse t .notActive .none s

end Sys2Proof.Machine
end

