-- ==== Sys2Proof/Machine/Cycle.lean ====
section
/-! DEFINITION. The commands of chapter 7: taking a group, its phases, and its ends; with the completion log's append. -/

namespace Sys2Proof.Machine

/-! ### MOVE (R138) -/

/-- The MOVE telegram of a crane's group in flight (R138). -/
def State.moveReply (s : State) (c : Slot) (f : Flight) : Telegram :=
  .move { slot := c, phase := f.phase, truck := f.truck, lane := f.lane, recallCount := f.recallCount,
          takenTime := f.takenTime, footprint := f.footprint, workPosition := f.workPosition,
          moves := s.flightRecords c f }

/-! ### The checks of a TAKE (R120 to R122) -/

/-- The first check of R120 that fails. -/
def State.takeRefusal (s : State) (c : Slot) : Option Reason :=
  if s.mode ≠ .operating then some .notOperating
  else if s.halted then some .halted
  else if (s.crane c).slotState ≠ .active then some .notActive
  else if (s.queue c).isEmpty then some .noMove
  else if 192 ≤ s.log.length then some .logBacklog
  else none

/-- The first requirement of Table 7.3 that a section does not meet. -/
def sectionRequirement (job : Job) (r : Section) : Option Reason :=
  match job with
  | .discharge .deck =>
    if r.unlash ≠ 0 then some .lashed else if r.hatch ≠ .fitted then some .hatchLifted else none
  | .load .deck => if r.hatch ≠ .fitted then some .hatchLifted else none
  | .discharge .hold | .load .hold => if r.hatch ≠ .lifted then some .hatchFitted else none
  | .hatchOff =>
    if r.hatch ≠ .fitted then some .hatchLifted
    else if r.unlash ≠ 0 then some .lashed
    else if r.tally ≠ 0 then some .deckOccupied
    else none
  | .hatchOn => if r.hatch ≠ .lifted then some .hatchFitted else none

/-- Some section of a footprint passes a test. -/
def State.anyOf (s : State) (f : Footprint) (test : Section → Bool) : Bool :=
  f.sections.any fun i => (s.section? i).any test

/-- Some section within the exclusion radius of a footprint passes a test (R74). -/
def State.anyNear (s : State) (f : Footprint) (test : Section → Bool) : Bool :=
  f.sections.any fun i => s.anyInRadius i test

/-- The first section requirement a footprint does not meet, sections ascending (R121 check 6). -/
def State.requirement (s : State) (job : Job) (f : Footprint) : Option Reason :=
  f.sections.findSome? fun i => (s.section? i).bind (sectionRequirement job)

/-- The first check of R121 that a candidate group fails, with what the REFUSE carries. -/
def State.groupRefusal (s : State) (c : Slot) (g : Group) : Option (Reason × RefuseInfo) :=
  let f := g.footprint
  if g.standing = .incomplete then some (.groupIncomplete, .none)
  else if s.config.bayTolerance < distance (s.positionUsed c) (s.workPosition f) then
    some (.notAtBay, .requiredPosition (s.workPosition f))
  else if s.anyOf f fun r => r.claim.isSome then some (.sectionClaimed, .none)
  else if s.anyNear f fun r => r.gang.isSome then some (.gangAboard, .none)
  else if s.anyNear f fun r => !r.waiting.isEmpty then some (.gangWaiting, .none)
  else (s.requirement g.firstMove.job f).map fun r => (r, .none)

/-- The candidates of a TAKE (R118). -/
def State.candidates (s : State) (c : Slot) : List Group :=
  match entry s.config.takeModes c with
  | .inOrder => (groupsOf (s.queue c)).take 1
  | .firstReady => (groupsOf (s.queue c)).take s.config.lookahead

/-- The first candidate that passes every check (R122). -/
def State.readyGroup (s : State) (c : Slot) : Option Group :=
  (s.candidates c).find? fun g => (s.groupRefusal c g).isNone

/-- The refusal of a TAKE no candidate of which passes: the head group's (R122). -/
def State.headRefusal (s : State) (c : Slot) : Reason × RefuseInfo :=
  match s.candidates c with
  | g :: _ => (s.groupRefusal c g).getD (.noMove, .none)
  | [] => (.noMove, .none)

/-! ### Taking a group (R119, R123) -/

/-- The in-flight record of a group as a TAKE creates it (R123). -/
def State.newFlight (s : State) (g : Group) : Flight where
  first := g.firstMove.tag
  second := g.secondMove.map fun m => m.tag
  job := g.firstMove.job
  phase := .assigned
  footprint := g.footprint
  workPosition := s.workPosition g.footprint
  truck := if g.firstMove.job.isHatch then .notNeeded else .pending
  lane := none
  truckId := none
  recallCount := 0
  takenTime := s.clock

/-- The effects of an accepted TAKE, in the order R123 lists them. -/
def State.takeGroup (s : State) (c : Slot) (g : Group) : State :=
  let s' := ((s.markRecords c (s.newFlight g).tags .assigned).claim c g.footprint).setFlight c (some (s.newFlight g))
  let s' := s'.setCrane c { s'.crane c with driftMark := false }
  (s'.reevaluate (s'.concern c)).attempt c

/-- TAKE on a fitted slot (R119). -/
def takeEvent (c : Slot) (_ : Unit) (s : State) : State × List Telegram :=
  match s.flight c with
  | some f =>
    if (s.crane c).slotState = .active then (s, [s.moveReply c f]) else refuse .take .notActive .none s
  | none =>
    match s.takeRefusal c with
    | some r => refuse .take r .none s
    | none =>
      match s.readyGroup c with
      | none => refuse .take (s.headRefusal c).1 (s.headRefusal c).2 s
      | some g =>
        let s' := s.takeGroup c g
        (s', [s'.moveReply c ((s'.flight c).getD (s.newFlight g))])

/-- TAKE (R119). -/
def execTake (c : Slot) (b : Body Unit) (s : State) : Host.Outcome State Fault Refusal :=
  s.craneRequest c .take b (takeEvent c)

/-! ### Phase reports (R125 to R129) -/

/-- A report about the group in flight on a fitted slot: refused with NOT_ACTIVE in DOWN or JOINING, with NO_MOVE when no
group is in flight or its first tag is another (R125, R132, R133). -/
def State.aboutFlight (s : State) (c : Slot) (t : RequestType) (tag : Nat)
    (event : Flight → State → State × List Telegram) : State × List Telegram :=
  match (s.crane c).slotState, s.flight c with
  | .down, _ | .joining _, _ => refuse t .notActive .none s
  | _, none => refuse t .noMove .none s
  | _, some f => if f.first = tag then event f s else refuse t .noMove .none s

/-- PHASE_ACK of a group in flight as it stands (R125). -/
def phaseReply (f : Flight) : Telegram :=
  .phaseAck { tag := f.first, phase := some f.phase, truck := some f.truck, lane := f.lane, outcome := none,
              saturated := false }

/-- PHASE_ACK of a group that has ended (R125, R130, R132, R133, log 13). -/
def endReply (tag : Nat) (o : GroupOutcome) (saturated : Bool) : Telegram :=
  .phaseAck { tag := tag, phase := none, truck := none, lane := none, outcome := some o, saturated := saturated }

/-- A LOCKED report, or a phase value that is none of the three (R125, R126, R127). -/
def lockedEvent (c : Slot) (r : PhaseReport) (s : State) : State × List Telegram :=
  s.aboutFlight c .phase r.tag fun f s =>
    if r.code ≠ 2 then refuse .phase .badValue .none s
    else
      match f.phase with
      | .assigned =>
        if f.job.isLoad && f.truck != .present then refuse .phase .noTruck .none s
        else
          let f' := { f with phase := Phase.locked }
          (s.setFlight c (some f'), [phaseReply f'])
      | .locked => (s, [phaseReply f])
      | .aloft => refuse .phase .phaseOrder .none s

/-- PHASE_LOCKED (R127). -/
def execPhaseLocked (c : Slot) (b : Body PhaseReport) (s : State) : Host.Outcome State Fault Refusal :=
  s.craneRequest c .phase b (lockedEvent c)

/-- The lane a LOAD group keeps as it goes ALOFT: as it stood with the truck PRESENT or FAILED, none with it CALLED or
PENDING (R128). -/
def Flight.laneAloft (f : Flight) : Option Lane :=
  match f.truck with
  | .present | .failed | .departed | .notNeeded => f.lane
  | .called | .pending => none

/-- A group in LOCKED goes ALOFT; a LOAD group's truck becomes DEPARTED (R128). -/
def Flight.lifted (f : Flight) : Flight :=
  if f.job.isLoad then { f with phase := .aloft, truck := .departed, lane := f.laneAloft }
  else { f with phase := .aloft }

/-- The effects of an accepted ALOFT (R128). -/
def State.liftGroup (s : State) (c : Slot) (f : Flight) : State :=
  let s' := s.setFlight c (some f.lifted)
  if f.job.isLoad then s'.releaseTruck c f else s'

/-- An ALOFT report (R126, R128). -/
def aloftEvent (c : Slot) (tag : Nat) (s : State) : State × List Telegram :=
  s.aboutFlight c .phase tag fun f s =>
    match f.phase with
    | .assigned => refuse .phase .phaseOrder .none s
    | .locked => (s.liftGroup c f, [phaseReply f.lifted])
    | .aloft => (s, [phaseReply f])

/-- PHASE_ALOFT (R128). -/
def execPhaseAloft (c : Slot) (b : Body Nat) (s : State) : Host.Outcome State Fault Refusal :=
  s.craneRequest c .phase b (aloftEvent c)

/-! ### The Completion Log's append (R160, R163) -/

/-- The completion record of one move of an ending group (R130, R136, Table 9.1). -/
def completionOf (c : Slot) (f : Flight) (now : Time) (result : MoveResult) (m : MoveRecord) : CompletionRecord where
  tag := m.tag
  slot := c
  job := m.job
  bay := m.bay
  size := m.size
  lane := f.lane
  truckId := f.truckId
  takenTime := f.takenTime
  endTime := now
  recallCount := f.recallCount
  result := result

/-- Append the completion records of an ending group; a count that reaches 192 from below sets the backlog state and raises
LOG_BACKLOG (R160, R163). -/
def State.appendLog (s : State) (c : Slot) (tag : Nat) (rs : List CompletionRecord) : State :=
  let s' : State := { s with log := s.log ++ rs }
  if s.log.length < 192 ∧ 192 ≤ s'.log.length then
    ({ s' with backlog := true } : State).raise .logBacklog (.backlog c tag s'.log.length s.clock)
  else s'

/-- The completion records of a group in flight. -/
def State.completions (s : State) (c : Slot) (f : Flight) (result : MoveResult) : List CompletionRecord :=
  (s.flightRecords c f).map (completionOf c f s.clock result)

/-- The group leaves flight: its record is removed, the drift mark cleared and the crane re-evaluated (R130, R134, R136,
R28, R48). -/
def State.endFlight (s : State) (c : Slot) : State :=
  let s' := s.setFlight c none
  let s' := s'.setCrane c { s'.crane c with driftMark := false }
  s'.reevaluate (s'.concern c)

/-! ### LANDED (R129, R130) -/

/-- The effects of an accepted LANDED in the order of R130; with whether a counter was held. -/
def State.landGroup (s : State) (c : Slot) (f : Flight) : State × Bool :=
  let r := s.landed f.job f.footprint (s.flightRecords c f)
  let s1 := if f.job.isDischarge then r.1.releaseTruck c f else r.1
  let s2 := s1.releaseFootprint f.footprint
  let s3 := s2.appendLog c f.first (s.completions c f .done)
  ((s3.removeRecords c f.tags).endFlight c, r.2)

/-- A LANDED report (R126, R129, R130). -/
def landedEvent (c : Slot) (tag : Nat) (s : State) : State × List Telegram :=
  s.aboutFlight c .phase tag fun f s =>
    match f.phase with
    | .assigned | .locked => refuse .phase .phaseOrder .none s
    | .aloft =>
      if f.job.isDischarge && f.truck != .present then refuse .phase .noTruck .none s
      else ((s.landGroup c f).1, [endReply f.first .landed (s.landGroup c f).2])

/-- PHASE_LANDED (R130). -/
def execPhaseLanded (c : Slot) (b : Body Nat) (s : State) : Host.Outcome State Fault Refusal :=
  s.craneRequest c .phase b (landedEvent c)

/-! ### ABANDON and SET_BACK (R132 to R134) -/

/-- End a group without completion: records QUEUED at their places, footprint released, truck released, the record removed
(R134). -/
def State.giveUpGroup (s : State) (c : Slot) (f : Flight) : State :=
  (((s.markRecords c f.tags .queued).releaseFootprint f.footprint).releaseTruck c f).endFlight c

/-- An ABANDON (R132). -/
def abandonEvent (c : Slot) (tag : Nat) (s : State) : State × List Telegram :=
  s.aboutFlight c .abandon tag fun f s =>
    match f.phase with
    | .aloft => refuse .abandon .loadAboard .none s
    | .assigned | .locked => (s.giveUpGroup c f, [endReply f.first .abandoned false])

/-- ABANDON (R132). -/
def execAbandon (c : Slot) (b : Body Nat) (s : State) : Host.Outcome State Fault Refusal :=
  s.craneRequest c .abandon b (abandonEvent c)

/-- A SET_BACK (R133). -/
def setBackEvent (c : Slot) (tag : Nat) (s : State) : State × List Telegram :=
  s.aboutFlight c .setBack tag fun f s =>
    if f.job.isLoad then refuse .setBack .notAllowed .none s
    else
      match f.phase with
      | .assigned | .locked => refuse .setBack .phaseOrder .none s
      | .aloft => (s.giveUpGroup c f, [endReply f.first .setBack false])

/-- SET_BACK (R133). -/
def execSetBack (c : Slot) (b : Body Nat) (s : State) : Host.Outcome State Fault Refusal :=
  s.craneRequest c .setBack b (setBackEvent c)

/-! ### FORCE_RELEASE (R135, R136) -/

/-- End the group of a DOWN crane: truck and footprint released, FORCED records appended, the moves freed (R136). -/
def State.forceGroup (s : State) (c : Slot) (f : Flight) : State :=
  let s1 := (s.releaseTruck c f).releaseFootprint f.footprint
  let s2 := s1.appendLog c f.first (s.completions c f .forced)
  (s2.removeRecords c f.tags).endFlight c

/-- A FORCE_RELEASE (R135, R136). -/
def forceEvent (slot : Nat) (s : State) : State × List Telegram :=
  match slotOf slot with
  | none => refuse .forceRelease .badValue .none s
  | some c =>
    if (s.crane c).slotState ≠ .down then refuse .forceRelease .notAllowed .none s
    else
      match s.flight c with
      | none => refuse .forceRelease .noMove .none s
      | some f => planAck (.forced c f.tags) (s.forceGroup c f)

/-- FORCE_RELEASE (R136). -/
def execForceRelease (b : Body Nat) (s : State) : Host.Outcome State Fault Refusal :=
  s.request .plan .forceRelease b forceEvent

end Sys2Proof.Machine
end

