-- ==== Sys2Proof/Machine/Gangs.lean ====
section
/-! DEFINITION. The commands of chapter 5: the base station's telegrams and the check-in timer. -/

namespace Sys2Proof.Machine

/-! ### What every gang telegram shares (R82) -/

/-- A gang telegram: an id outside 0..7 is refused with BAD_VALUE before any other check (R82). -/
def gangRequest (t : RequestType) (id : Nat) (event : GangId → State → State × List Telegram) (s : State) :
    State × List Telegram :=
  match gangOf id with
  | some g => event g s
  | none => refuse t .badValue .none s

/-- A refusal with GANG_STATE carries the gang's present state and, while WAITING or ABOARD, its section and task (R82). -/
def refuseGang (t : RequestType) (g : GangId) (s : State) : State × List Telegram :=
  refuse t .gangState (.gang (s.gang g).shown) s

/-- GANG_ACK with the result OK and no condition. -/
def gangOk (g : GangId) : Telegram := .gangAck (.ok g false false false)

/-! ### Shift (R83, R84) -/

/-- A headcount taken within 1..12 (R83). -/
def heldHeadcount (n : Nat) : Nat := max 1 (min 12 n)

/-- SIGN_ON (R83). -/
def signOnEvent (r : SignOnReport) (s : State) : State × List Telegram :=
  gangRequest .signOn r.gang (fun g s =>
    match s.gang g with
    | .off =>
      (s.setGang g (.ashore (heldHeadcount r.headcount)),
        [.gangAck (.ok g (decide (heldHeadcount r.headcount ≠ r.headcount)) false false)])
    | .ashore _ | .waiting _ _ _ | .aboard _ _ _ _ _ => refuseGang .signOn g s) s

/-- SIGN_ON (R83). -/
def execSignOn (b : Body SignOnReport) (s : State) : Host.Outcome State Fault Refusal :=
  s.request .gang .signOn b signOnEvent

/-- SIGN_OFF (R84). -/
def signOffEvent (id : Nat) (s : State) : State × List Telegram :=
  gangRequest .signOff id (fun g s =>
    match s.gang g with
    | .ashore _ => (s.setGang g .off, [gangOk g])
    | .off | .waiting _ _ _ | .aboard _ _ _ _ _ => refuseGang .signOff g s) s

/-- SIGN_OFF (R84). -/
def execSignOff (b : Body Nat) (s : State) : Host.Outcome State Fault Refusal := s.request .gang .signOff b signOffEvent

/-! ### Boarding (R75, R85, R86) -/

/-- The Section Table's decision that an ENTER boards at once (R75). -/
def State.boardsAtOnce (s : State) (i : Nat) : Bool :=
  (s.section? i).any (fun r => r.gang.isNone && r.waiting.isEmpty) && !s.claimNear i

/-- The gang becomes the section's gang, ABOARD and checked in (R75, R86). -/
def State.board (s : State) (g : GangId) (head i : Nat) (task : Task) : State :=
  (s.changeSection i fun r => { r with gang := some g }).setGang g (.aboard head i task s.clock false)

/-- The gang joins the end of the section's waiting list (R75, R86). -/
def State.joinWaiting (s : State) (g : GangId) (head i : Nat) (task : Task) : State :=
  (s.changeSection i fun r => { r with waiting := r.waiting ++ [g] }).setGang g (.waiting head i task)

/-- The number of gangs on a section's waiting list. -/
def State.waitingCount (s : State) (i : Nat) : Nat := ((s.section? i).map fun r => r.waiting.length).getD 0

/-- ENTER of a gang whose id is good (R85, R86). -/
def enterGang (i task : Nat) (g : GangId) (s : State) : State × List Telegram :=
  if s.mode ≠ .operating then refuse .enter .notOperating .none s
  else
    match s.gang g with
    | .ashore head =>
      match taskOf task with
      | none => refuse .enter .badValue .none s
      | some t =>
        if s.vessel.isNone then refuse .enter .noVessel .none s
        else if i = 0 ∨ s.sectionCount < i then refuse .enter .sectionRange .none s
        else if s.boardsAtOnce i then (s.board g head i t, [.gangAck (.granted g i)])
        else
          let s' := s.joinWaiting g head i t
          (s', [.gangAck (.waiting g i (s'.waitingCount i))])
    | .off | .waiting _ _ _ | .aboard _ _ _ _ _ => refuseGang .enter g s

/-- The event of an ENTER (R85). -/
def enterEvent (r : EnterRequest) (s : State) : State × List Telegram :=
  gangRequest .enter r.gang (enterGang r.section_ r.task) s

/-- ENTER (R85). -/
def execEnter (b : Body EnterRequest) (s : State) : Host.Outcome State Fault Refusal :=
  s.request .gang .enter b enterEvent

/-! ### Work aboard (R88, R89) -/

/-- UNITS of a gang whose id is good (R88, R67). -/
def unitsOf (n : Nat) (g : GangId) (s : State) : State × List Telegram :=
  match s.gang g with
  | .aboard _ i t _ _ =>
    if n = 0 ∨ 63 < n then refuse .units .badValue .none s
    else
      (s.countUnits g i t n,
        [.gangAck (.ok g false (decide (0 < s.counter i t ∧ s.counter i t ≤ n)) (decide (s.counter i t < n)))])
  | .off | .ashore _ | .waiting _ _ _ => refuseGang .units g s

/-- The event of a UNITS (R88). -/
def unitsEvent (r : UnitsReport) (s : State) : State × List Telegram := gangRequest .units r.gang (unitsOf r.units) s

/-- UNITS (R88). -/
def execUnits (b : Body UnitsReport) (s : State) : Host.Outcome State Fault Refusal :=
  s.request .gang .units b unitsEvent

/-- CHECK of a gang whose id is good (R89). -/
def checkGang (g : GangId) (s : State) : State × List Telegram :=
  match s.gang g with
  | .aboard head i t _ _ => (s.setGang g (.aboard head i t s.clock false), [gangOk g])
  | .off | .ashore _ | .waiting _ _ _ => refuseGang .check g s

/-- The event of a CHECK (R89). -/
def checkEvent (id : Nat) (s : State) : State × List Telegram := gangRequest .check id checkGang s

/-- CHECK (R89). -/
def execCheck (b : Body Nat) (s : State) : Host.Outcome State Fault Refusal := s.request .gang .check b checkEvent

/-! ### Leaving a section (R90, R91, R77) -/

/-- The exit of a gang aboard: the section's gang is cleared and the section considered, then the gang is ASHORE
(R90, R77). -/
def State.exitAboard (s : State) (g : GangId) (head i : Nat) : State :=
  ((s.changeSection i fun r => { r with gang := none }).consider i).setGang g (.ashore head)

/-- A gang stands at the head of a section's waiting list. -/
def State.isHead (s : State) (g : GangId) (i : Nat) : Bool := (s.section? i).any fun r => r.waiting.head? == some g

/-- The exit of a waiting gang: it leaves the list, and where it stood at the head the section is considered (R91, R77). -/
def State.exitWaiting (s : State) (g : GangId) (head i : Nat) : State :=
  let s' := s.changeSection i fun r => { r with waiting := r.waiting.filter (· ≠ g) }
  (if s.isHead g i then s'.consider i else s').setGang g (.ashore head)

/-- EXIT of a gang whose id is good (R90, R91). -/
def exitGang (g : GangId) (s : State) : State × List Telegram :=
  match s.gang g with
  | .aboard head i _ _ _ => (s.exitAboard g head i, [gangOk g])
  | .waiting head i _ => (s.exitWaiting g head i, [gangOk g])
  | .off | .ashore _ => refuseGang .exit g s

/-- The event of an EXIT (R90). -/
def exitEvent (id : Nat) (s : State) : State × List Telegram := gangRequest .exit id exitGang s

/-- EXIT (R90). -/
def execExit (b : Body Nat) (s : State) : Host.Outcome State Fault Refusal := s.request .gang .exit b exitEvent

/-! ### Check-in supervision (R92 to R94) -/

/-- The check-in timer of a gang has run out: more than the check interval since its last check (R92). -/
def State.checkLapsed (s : State) (g : GangId) : Bool :=
  match s.gang g with
  | .aboard _ _ _ last false => decide ((s.config.checkInterval : Int) < timeSince s.clock last)
  | .aboard _ _ _ _ true | .off | .ashore _ | .waiting _ _ _ => false

/-- A gang becomes overdue: the mark is set, GANG_OVERDUE raised and OVERDUE sent (R93). -/
def State.becomeOverdue (s : State) (g : GangId) : State :=
  match s.gang g with
  | .aboard head i t last _ =>
    ((s.setGang g (.aboard head i t last true)).raise .gangOverdue (.gang g i s.clock)).send .gang
      (.overdue g i t head last)
  | .off | .ashore _ | .waiting _ _ _ => s

/-- Make a gang overdue whose timer has run out; otherwise nothing runs out. -/
def State.superviseGang (s : State) (g : GangId) : State := if s.checkLapsed g then s.becomeOverdue g else s

/-- CHECK_IN_TIMER_EXPIRY (R93); before the timer has run out nothing happens (log 8). -/
def execCheckInTimerExpiry (g : GangId) (s : State) : Host.Outcome State Fault Refusal := .next (s.superviseGang g)

end Sys2Proof.Machine
end

