-- ==== Sys2Proof/Machine/Journal.lean ====
section
/-! DEFINITION. The commands of chapter 9: reading and freeing the Completion Log, reading and acknowledging the alerts. -/

namespace Sys2Proof.Machine

/-! ### The Completion Log (R161, R162) -/

/-- LOG_READ (R161). -/
def logReadEvent (k : Nat) (s : State) : State × List Telegram :=
  if k = 0 ∨ 8 < k then refuse .logRead .badValue .none s
  else (s, [.readReply (.log s.log.length (s.log.take k)) none])

/-- LOG_READ (R161). -/
def execLogRead (b : Body Nat) (s : State) : Host.Outcome State Fault Refusal := s.request .plan .logRead b logReadEvent

/-- Remove the oldest `n` records; a count below 192 clears the backlog state (R162, R163). -/
def State.freeLog (s : State) (n : Nat) : State :=
  { s with log := s.log.drop n
           backlog := if (s.log.drop n).length < 192 then false else s.backlog }

/-- LOG_FREE (R162). -/
def logFreeEvent (n : Nat) (s : State) : State × List Telegram :=
  let removed := min n s.log.length
  planAck (.logFree removed (s.log.length - removed) (decide (s.log.length < n))) (s.freeLog removed)

/-- LOG_FREE (R162). -/
def execLogFree (b : Body Nat) (s : State) : Host.Outcome State Fault Refusal := s.request .plan .logFree b logFreeEvent

/-! ### The Alert Unit (R165, R166) -/

/-- ALERT_READ (R165). -/
def alertReadEvent (_ : Unit) (s : State) : State × List Telegram :=
  (s, [.readReply (.alerts (alertFlags s.alerts) s.alerts (s.config.alertMask.setWidth 16) s.attn) none])

/-- ALERT_READ (R165). -/
def execAlertRead (b : Body Unit) (s : State) : Host.Outcome State Fault Refusal :=
  s.request .plan .alertRead b alertReadEvent

/-- The mask names nothing outside the twelve alerts (R166, Table 11.4). -/
def namesAlertsOnly (mask : BitVec 16) : Bool := mask.toNat < 4096

/-- The lines whose pair's trip is held by the latch: a line serving a pair in an edge mode with its latch set (R54). -/
def State.latchedTrips (s : State) : List LineNo :=
  all7.filter fun k => s.tripped k &&
    (entry s.config.sensorModes k == .rise || entry s.config.sensorModes k == .fall ||
      entry s.config.sensorModes k == .both)

/-- Clear the trip latch of every line; the pairs whose trip was held by its latch end it and their cranes are re-evaluated
(R57). -/
def State.clearLatches (s : State) : State :=
  ({ s with latches := Vector.replicate 7 false } : State).reevaluate
    (s.latchedTrips.flatMap fun k => [lineWest k, lineEast k])

/-- Clear the alerts a mask names and re-evaluate ATTN; naming SENSOR_TRIP also clears every trip latch (R166, R57). -/
def State.acknowledge (s : State) (mask : BitVec 16) : State :=
  let s' := ({ s with alerts := clearedAlerts s.alerts mask } : State).driveAttn
  if mask.getLsbD Alert.sensorTrip.bit.val then s'.clearLatches else s'

/-- ALERT_ACK (R166). -/
def alertAckEvent (mask : BitVec 16) (s : State) : State × List Telegram :=
  if namesAlertsOnly mask then
    let s' := s.acknowledge mask
    planAck (.alerts (alertFlags s'.alerts)) s'
  else refuse .alertAck .badValue .none s

/-- ALERT_ACK (R166). -/
def execAlertAck (b : Body (BitVec 16)) (s : State) : Host.Outcome State Fault Refusal :=
  s.request .plan .alertAck b alertAckEvent

end Sys2Proof.Machine
end

