-- ==== Sys2Proof/Machine/Lanes.lean ====
section
/-! DEFINITION. The commands of chapter 8: the lane controller's telegrams, the deadline of a call, and RECALL. -/

namespace Sys2Proof.Machine

/-- A lane telegram refused with the present state of the stand it names (R140). -/
def refuseAt (t : RequestType) (r : Reason) (c : Slot) (l : Lane) (s : State) : State × List Telegram :=
  refuse t r (.stand (s.stand c l).name) s

/-- A lane telegram that names a stand, with its other fields valid or not: BAD_VALUE before any other check (R140). -/
def standRequest (t : RequestType) (slot lane : Nat) (valid : Bool)
    (event : Slot → Lane → State → State × List Telegram) (s : State) : State × List Telegram :=
  match slotOf slot, laneOf lane with
  | some c, some l => if valid then event c l s else refuseAt t .badValue c l s
  | _, _ => refuse t .badValue .none s

/-! ### LANES (R141) -/

/-- The CALLED stands of lanes the open mask does not hold, ascending (R141). -/
def State.closedCalls (s : State) : List (Slot × Lane) :=
  all8.flatMap fun c => (all8.filter fun l => (s.stand c l).name == .called && !has s.laneMask l).map fun l => (c, l)

/-- Cancel a call in a closed lane: its group's truck is PENDING again, the count untouched (R141). -/
def State.closeCall (s : State) (at_ : Slot × Lane) : State :=
  let s' := s.cancelStand at_.1 at_.2
  match s.flight at_.1 with
  | some f => s'.setFlight at_.1 (some { f with truck := .pending, lane := none, truckId := none })
  | none => s'

/-- LANES: store the mask, cancel the calls in closed lanes, attempt every PENDING request (R141). -/
def lanesEvent (mask : Mask) (s : State) : State × List Telegram :=
  let s' : State := { s with laneMask := mask }
  ((s'.closedCalls.foldl State.closeCall s').attemptAll, [.laneAck (.lanes mask s'.closedCalls.length)])

/-- LANES (R141). -/
def execLanes (b : Body Mask) (s : State) : Host.Outcome State Fault Refusal := s.request .lane .lanes b lanesEvent

/-! ### ARRIVE (R147, R148) -/

/-- The called truck stands at the stand: OCCUPIED, the group's truck PRESENT, STAND_READY to the crane (R147, R148).
DESIGN CHOICE (log 36): with the slot DOWN and its port link-up the notice waits on the port like any other. -/
def State.takeArrival (s : State) (c : Slot) (l : Lane) (k : Call) (truck : Nat) : State :=
  let s' := s.setStand c l (.occupied k truck)
  match s.flight c with
  | some f =>
    (s'.setFlight c (some { f with truck := .present, truckId := some truck })).send (.crane c)
      (.standReady f.first l truck)
  | none => s'

/-- ARRIVE at a stand (R147). -/
def arriveAt (call truck : Nat) (c : Slot) (l : Lane) (s : State) : State × List Telegram :=
  match s.stand c l with
  | .called k _ _ _ =>
    if k.number = call then
      let s' := s.takeArrival c l k truck
      (s', [.laneAck (.arrived c l (s'.stand c l).name k.tags k.direction)])
    else refuseAt .arrive .callStale c l s
  | .free => refuseAt .arrive .callStale c l s
  | .occupied _ _ | .released _ _ => refuseAt .arrive .standState c l s

/-- The event of an ARRIVE (R147). -/
def arriveEvent (r : ArriveReport) (s : State) : State × List Telegram :=
  standRequest .arrive r.slot r.lane (r.truck != 0 && r.call != 0) (arriveAt r.call r.truck) s

/-- ARRIVE (R147). -/
def execArrive (b : Body ArriveReport) (s : State) : Host.Outcome State Fault Refusal :=
  s.request .lane .arrive b arriveEvent

/-! ### GONE and CLEAR (R151, R155) -/

/-- A truck leaves an OCCUPIED stand: FREE; a LOAD in LOCKED fails its truck outright, any other group's call has lapsed
(R151). -/
def State.truckLeft (s : State) (c : Slot) (l : Lane) : State :=
  let s' := s.setStand c l .free
  match s.flight c with
  | some f => if f.job.isLoad && f.phase == .locked then s'.failTruck c f l .gone else s'.lapse c l .gone
  | none => s'

/-- GONE at a stand (R151). -/
def goneAt (truck : Nat) (c : Slot) (l : Lane) (s : State) : State × List Telegram :=
  match s.stand c l with
  | .occupied _ id =>
    if id = truck then
      let s' := s.truckLeft c l
      (s', [.laneAck (.gone c l (s'.stand c l).name ((s'.flight c).map fun f => f.truck))])
    else refuseAt .gone .standState c l s
  | .released _ id =>
    if id = truck then
      let s' := s.clearStand c l
      (s', [.laneAck (.clear c l (s'.stand c l).name)])
    else refuseAt .gone .standState c l s
  | .free | .called _ _ _ _ => refuseAt .gone .standState c l s

/-- The event of a GONE (R151). -/
def goneEvent (r : GoneReport) (s : State) : State × List Telegram :=
  standRequest .gone r.slot r.lane (r.truck != 0) (goneAt r.truck) s

/-- GONE (R151). -/
def execGone (b : Body GoneReport) (s : State) : Host.Outcome State Fault Refusal := s.request .lane .gone b goneEvent

/-- CLEAR at a stand (R155). -/
def clearAt (c : Slot) (l : Lane) (s : State) : State × List Telegram :=
  match s.stand c l with
  | .released _ _ =>
    let s' := s.clearStand c l
    (s', [.laneAck (.clear c l (s'.stand c l).name)])
  | .free | .called _ _ _ _ | .occupied _ _ => refuseAt .clear .standState c l s

/-- The event of a CLEAR (R155). -/
def clearEvent (r : StandRef) (s : State) : State × List Telegram := standRequest .clear r.slot r.lane true clearAt s

/-- CLEAR (R155). -/
def execClear (b : Body StandRef) (s : State) : Host.Outcome State Fault Refusal := s.request .lane .clear b clearEvent

/-! ### The deadline of a call (R149) -/

/-- CALL_DEADLINE_EXPIRY: at a CALLED stand whose deadline is reached, CANCEL is sent, the stand becomes FREE and the call
has lapsed (R149, R145). Before the deadline, and at any other stand, nothing runs out (log 8). -/
def execCallDeadlineExpiry (c : Slot) (l : Lane) (s : State) : Host.Outcome State Fault Refusal :=
  .next (match s.stand c l with
    | .called _ _ deadline _ => if reached s.clock deadline then (s.cancelStand c l).lapse c l .late else s
    | .free | .occupied _ _ | .released _ _ => s)

/-! ### RECALL (R152) -/

/-- The crane whose group in flight holds a tag. -/
def State.flightOf (s : State) (tag : Nat) : Option (Slot × Flight) :=
  all8.findSome? fun c =>
    match s.flight c with
    | some f => if f.tags.contains tag then some (c, f) else none
    | none => none

/-- Start a failed group's truck afresh: recall count 0, PENDING without a truck id, attempted at once (R152). -/
def State.restartTruck (s : State) (c : Slot) (f : Flight) : State :=
  (s.setFlight c (some { f with truck := .pending, truckId := none, recallCount := 0 })).attempt c

/-- RECALL (R152). -/
def recallEvent (tag : Nat) (s : State) : State × List Telegram :=
  if !s.inPool tag then refuse .recall .unknownTag .none s
  else
    match s.flightOf tag with
    | none => refuse .recall .notAllowed .none s
    | some (c, f) =>
      if f.truck = .failed then
        let s' := s.restartTruck c f
        planAck (match s'.flight c with
          | some f' => .recall f'.first f'.truck f'.lane
          | none => .recall f.first .pending none) s'
      else refuse .recall .notAllowed .none s

/-- RECALL (R152). -/
def execRecall (b : Body Nat) (s : State) : Host.Outcome State Fault Refusal := s.request .plan .recall b recallEvent

end Sys2Proof.Machine
end

