-- ==== Sys2Proof/Machine/Layout.lean ====
section
/-! DEFINITION. Bytes on the links (chapter 11): the CRC and the frame, type and reason codes, and the byte layouts of the
central telegrams. -/

namespace Sys2Proof.Machine

/-! ### Byte order (R180) -/

/-- A two-byte field, high byte first (R180). -/
def two (n : Nat) : List Byte := [BitVec.ofNat 8 (n / 256), BitVec.ofNat 8 n]

/-- A Quay Clock time, four bytes, high byte first (R180). -/
def four (t : Time) : List Byte :=
  [t.extractLsb' 24 8, t.extractLsb' 16 8, t.extractLsb' 8 8, t.extractLsb' 0 8]

/-- The value of a two-byte field (R180). -/
def readTwo (hi lo : Byte) : Nat := hi.toNat * 256 + lo.toNat

/-- The value of a signed two-byte field (R180). -/
def readSigned (hi lo : Byte) : Int := (BitVec.ofNat 16 (readTwo hi lo)).toInt

/-- A bit of a flag byte. -/
def flag (b : Bool) (bit : Nat) : Nat := if b then 2 ^ bit else 0

/-- One byte. -/
def byteOf (n : Nat) : Byte := BitVec.ofNat 8 n

/-! ### The frame (R175) -/

/-- One bit of the CRC's division by x^16 + x^12 + x^5 + 1 (R175). -/
def crcBit (crc : BitVec 16) : BitVec 16 :=
  if crc.getLsbD 15 then (crc <<< 1) ^^^ 0x1021#16 else crc <<< 1

/-- One byte into the CRC, bits not reflected (R175). -/
def crcByte (crc : BitVec 16) (b : Byte) : BitVec 16 :=
  crcBit (crcBit (crcBit (crcBit (crcBit (crcBit (crcBit (crcBit (crc ^^^ (b.setWidth 16 <<< 8)))))))))

/-- The CRC of a list of bytes, initial value 0xFFFF, no final value (R175). -/
def crcOf (bytes : List Byte) : BitVec 16 := bytes.foldl crcByte 0xFFFF#16

/-- The CRC of a frame, over the length, the type and the body (R175). -/
def frameCrc (len : Nat) (ty : Byte) (body : List Byte) : BitVec 16 := crcOf (byteOf len :: ty :: body)

/-- A frame: start byte, length, type, body, CRC high byte first (Table 11.1). -/
def frame (ty : Byte) (body : List Byte) : List Byte :=
  0xA5#8 :: byteOf body.length :: ty :: body ++
    [(frameCrc body.length ty body).extractLsb' 8 8, (frameCrc body.length ty body).extractLsb' 0 8]

/-! ### The receiver (R176) -/

/-- The receive state with these body bytes in: BODY, or CHECK when all L of them are (R176). -/
def bodyState (len : Nat) (ty : Byte) (bytes : List Byte) : Receiver :=
  if bytes.length < len then .body len ty bytes else .check len ty bytes none

/-- One byte without a stop-bit error: the receive state after it, and the type and body of a frame it completes with a good
CRC (R176). -/
def Receiver.take (r : Receiver) (b : Byte) : Receiver × Option (Byte × List Byte) :=
  match r with
  | .hunt => (if b = 0xA5#8 then .length else .hunt, none)
  | .length => (if b.toNat = 0 ∨ 200 < b.toNat then .hunt else .type b.toNat, none)
  | .type len => (bodyState len b [], none)
  | .body len ty bytes => (bodyState len ty (bytes ++ [b]), none)
  | .check len ty bytes none => (.check len ty bytes (some b), none)
  | .check len ty bytes (some high) =>
    (.hunt, if frameCrc len ty bytes = high ++ b then some (ty, bytes) else none)

/-! ### Type codes (Table 11.2) and reason codes (Table 11.3) -/

def RequestType.code : RequestType → Byte
  | .join => 0x10#8
  | .position => 0x11#8
  | .travel => 0x12#8
  | .travelCancel => 0x13#8
  | .take => 0x14#8
  | .phase => 0x15#8
  | .abandon => 0x16#8
  | .setBack => 0x17#8
  | .leave => 0x18#8
  | .lanes => 0x40#8
  | .arrive => 0x41#8
  | .gone => 0x42#8
  | .clear => 0x43#8
  | .signOn => 0x60#8
  | .enter => 0x61#8
  | .units => 0x62#8
  | .check => 0x63#8
  | .exit => 0x64#8
  | .signOff => 0x65#8
  | .setup => 0x80#8
  | .operate => 0x81#8
  | .config => 0x82#8
  | .overrideGeometry => 0x83#8
  | .openBerth => 0x84#8
  | .clearBerth => 0x85#8
  | .sectionSet => 0x86#8
  | .append => 0x87#8
  | .insert => 0x88#8
  | .delete => 0x89#8
  | .replace => 0x8A#8
  | .readQueue => 0x8B#8
  | .readNext => 0x8C#8
  | .logRead => 0x8D#8
  | .logFree => 0x8E#8
  | .alertRead => 0x8F#8
  | .alertAck => 0x90#8
  | .recall => 0x91#8
  | .forceRelease => 0x92#8
  | .status => 0x93#8

/-- The requests a master sends on a port (Table 11.2). -/
def requestsOn : PortId → List RequestType
  | .crane _ => [.join, .position, .travel, .travelCancel, .take, .phase, .abandon, .setBack, .leave]
  | .lane => [.lanes, .arrive, .gone, .clear]
  | .gang => [.signOn, .enter, .units, .check, .exit, .signOff]
  | .plan => [.setup, .operate, .config, .overrideGeometry, .openBerth, .clearBerth, .sectionSet, .append, .insert,
      .delete, .replace, .readQueue, .readNext, .logRead, .logFree, .alertRead, .alertAck, .recall, .forceRelease,
      .status]

/-- The request a type byte names on a port, if it is one the master sends there (R176). -/
def requestOf (p : PortId) (ty : Byte) : Option RequestType := (requestsOn p).find? fun t => t.code == ty

def Telegram.code : Telegram → Byte
  | .joinAck _ _ => 0x30#8
  | .window _ => 0x31#8
  | .travelGrant _ _ _ _ _ => 0x32#8
  | .move _ => 0x33#8
  | .phaseAck _ => 0x34#8
  | .standReady _ _ _ => 0x38#8
  | .standLost _ _ _ => 0x39#8
  | .refuse _ _ _ => 0x3F#8
  | .laneAck _ => 0x50#8
  | .call _ => 0x51#8
  | .cancel _ _ _ => 0x52#8
  | .depart _ _ _ _ => 0x53#8
  | .gangAck _ => 0x70#8
  | .grant _ _ => 0x71#8
  | .overdue _ _ _ _ _ => 0x72#8
  | .planAck _ => 0xA0#8
  | .readReply _ _ => 0xA1#8

/-- Reason codes (Table 11.3). -/
def Reason.code : Reason → Nat
  | .notOperating => 1
  | .notInSetup => 2
  | .halted => 3
  | .notActive => 4
  | .slotMismatch => 5
  | .pageOrder => 6
  | .pageRange => 7
  | .moveInFlight => 8
  | .noMove => 9
  | .logBacklog => 10
  | .groupIncomplete => 11
  | .notAtBay => 12
  | .sectionClaimed => 13
  | .gangAboard => 14
  | .gangWaiting => 15
  | .lashed => 16
  | .hatchFitted => 17
  | .hatchLifted => 18
  | .deckOccupied => 19
  | .noTruck => 20
  | .phaseOrder => 21
  | .loadAboard => 22
  | .notAllowed => 23
  | .windowEmpty => 24
  | .callStale => 25
  | .standState => 26
  | .gangState => 27
  | .sectionBusy => 28
  | .sectionRange => 29
  | .noVessel => 30
  | .berthBusy => 31
  | .positionRange => 32
  | .bayRange => 33
  | .duplicateTag => 34
  | .unknownTag => 35
  | .queueFull => 36
  | .poolFull => 37
  | .locked => 38
  | .busy => 39
  | .badValue => 40

/-- The result codes of a JOIN_ACK (section 11.4). -/
def JoinResult.code : JoinResult → Nat
  | .ok => 0
  | .slotMismatch => 5
  | .pageOrder => 6
  | .pageRange => 7
  | .notAllowed => 23
  | .overridden => 41

/-! ### Enumerated values (Table 11.4) -/

def Job.kindCode : Job → Nat
  | .discharge _ => 1
  | .load _ => 2
  | .hatchOff => 3
  | .hatchOn => 4

def Job.levelCode : Job → Nat
  | .discharge .deck | .load .deck => 1
  | .discharge .hold | .load .hold => 2
  | .hatchOff | .hatchOn => 0

def GroupMark.code : GroupMark → Nat
  | .single => 0
  | .twinFirst => 1
  | .twinSecond => 2

def Phase.code : Phase → Nat
  | .assigned => 1
  | .locked => 2
  | .aloft => 3

def TruckState.code : TruckState → Nat
  | .notNeeded => 0
  | .pending => 1
  | .called => 2
  | .present => 3
  | .departed => 4
  | .failed => 5

def Direction.code : Direction → Nat
  | .deliver => 1
  | .receive => 2

def MoveResult.code : MoveResult → Nat
  | .done => 1
  | .forced => 2

/-- The outcome a PHASE_ACK carries, 0 when absent. -/
def outcomeCode : Option GroupOutcome → Nat
  | none => 0
  | some .landed => 1
  | some .abandoned => 2
  | some .setBack => 3

/-- The cause a STAND_LOST carries. -/
def LostCause.code : LostCause → Nat
  | .late => 1
  | .gone => 2

def Task.code : Task → Nat
  | .unlash => 1
  | .lash => 2

def Hatch.code : Hatch → Nat
  | .fitted => 1
  | .lifted => 2

def Heading.code : Heading → Nat
  | .bowWest => 1
  | .bowEast => 2

/-- A lane, 0xFF when absent (R180). -/
def laneCode : Option Lane → Byte
  | some l => byteOf l.val
  | none => 0xFF#8

/-! ### Byte layouts of telegrams the part sends (section 11.6) -/

/-- WINDOW (Table 11.6). -/
def windowBody (w : WindowReply) : List Byte :=
  two w.lo ++ two w.hi ++
    [byteOf (flag w.eastPermit 0 + flag w.westPermit 1 + flag w.eastNear 2 + flag w.westNear 3 +
        flag w.eastUncertain 4 + flag w.westUncertain 5 + flag w.goal.isSome 6),
      byteOf (flag w.saturated 0 + flag w.clamped 1)] ++ two (w.goal.getD 0)

/-- Twelve bytes of one move of a MOVE (Table 11.7). -/
def moveBytes (m : MoveRecord) : List Byte :=
  two m.tag ++ [byteOf m.job.kindCode, byteOf m.job.levelCode, byteOf m.bay, byteOf m.size, byteOf m.mark.code,
    byteOf m.row] ++ two m.height ++ [m.laneMask, byteOf m.lash]

/-- The two footprint bytes of a MOVE (Table 11.7). -/
def footprintBytes : Footprint → List Byte
  | .one s => [byteOf s, 0#8]
  | .two s => [byteOf s, byteOf (s + 1)]

/-- MOVE (Table 11.7). -/
def moveBody (m : MoveReply) : List Byte :=
  [byteOf m.slot.val, byteOf m.phase.code, byteOf m.truck.code, laneCode m.lane, byteOf m.recallCount,
    byteOf m.moves.length] ++ four m.takenTime ++ footprintBytes m.footprint ++ two m.workPosition ++
    m.moves.flatMap moveBytes

/-- CALL (Table 11.8). -/
def callBody (k : CallNotice) : List Byte :=
  two k.number ++ [byteOf k.slot.val, byteOf k.lane.val] ++ two k.railPosition ++ four k.due ++
    [byteOf k.direction.code, byteOf k.size, byteOf (flag k.saturated 0), byteOf k.tags.length] ++ k.tags.flatMap two

/-- A completion record (Table 11.10). -/
def completionBytes (r : CompletionRecord) : List Byte :=
  two r.tag ++ [byteOf r.slot.val, byteOf r.job.kindCode, byteOf r.job.levelCode, byteOf r.bay, byteOf r.size,
    laneCode r.lane] ++ two (r.truckId.getD 0) ++ four r.takenTime ++ four r.endTime ++
    [byteOf r.recallCount, byteOf r.result.code]

/-- The read reply to LOG_READ (section 11.6). -/
def logBody (count : Nat) (rs : List CompletionRecord) : List Byte :=
  two count ++ [byteOf rs.length] ++ rs.flatMap completionBytes

/-- The body of a telegram the part sends, where section 11.6 lays it out. -/
def Telegram.body? : Telegram → Option (List Byte)
  | .window w => some (windowBody w)
  | .move m => some (moveBody m)
  | .call k => some (callBody k)
  | .readReply (.log count rs) none => some (logBody count rs)
  | _ => none

/-- The bytes of a telegram on its link, where its body is laid out (R175). -/
def Telegram.frame? (t : Telegram) : Option (List Byte) := t.body?.map (frame t.code)

/-! ### Byte layouts of telegrams a master sends (section 11.6, R177) -/

/-- POSITION (Table 11.5). -/
def positionBody (r : PositionReport) : List Byte :=
  two r.position ++ two (BitVec.ofInt 16 r.velocity).toNat

/-- ARRIVE (Table 11.9). -/
def arriveBody (r : ArriveReport) : List Byte :=
  two r.call ++ [byteOf r.slot, byteOf r.lane] ++ two r.truck

/-- Read a POSITION body (Table 11.5). -/
def readPosition : List Byte → Body PositionReport
  | [a, b, c, d] => .fields { position := readTwo a b, velocity := readSigned c d }
  | _ => .malformed

/-- Read an ARRIVE body (Table 11.9). -/
def readArrive : List Byte → Body ArriveReport
  | [a, b, c, d, e, f] => .fields { call := readTwo a b, slot := c.toNat, lane := d.toNat, truck := readTwo e f }
  | _ => .malformed

/-- Read the body of a request that carries nothing: one byte, 0 (R177). -/
def readNothing : List Byte → Body Unit
  | [b] => if b = 0#8 then .fields () else .malformed
  | _ => .malformed

/-- Read a body of one two-byte field (R180, log 4). -/
def readField : List Byte → Body Nat
  | [a, b] => .fields (readTwo a b)
  | _ => .malformed

end Sys2Proof.Machine
end

