-- ==== Sys2Proof/Machine/Queues.lean ====
section
/-! DEFINITION. The commands of chapter 6: edits of the queues and their read-out. -/

namespace Sys2Proof.Machine

/-! ### Edits (R105 to R109) -/

/-- A record of a tag with its crane, its index and its state, where the tag is in the pool. -/
def State.findTag (s : State) (tag : Nat) : Option (Slot × Nat × MoveState) :=
  match s.holderOf tag with
  | none => none
  | some c =>
    match indexOfTag (s.queue c) tag, recordOfTag (s.queue c) tag with
    | some i, some m => some (c, i, m.state)
    | _, _ => none

/-- The PLAN_ACK of an edit, from the state after it (R105). -/
def editAck (tag : Nat) (c : Slot) (index : Option Nat) (s : State) : State × List Telegram :=
  planAck (.edit tag c index (s.queue c).length s.poolCount) s

/-- The room for one more record in a crane's queue and in the pool (R106, R107). -/
def State.roomRefusal (s : State) (c : Slot) : Option Reason :=
  if 160 ≤ (s.queue c).length then some .queueFull
  else if 640 ≤ s.poolCount then some .poolFull
  else none

/-- APPEND (R106). -/
def appendEvent (r : AppendRequest) (s : State) : State × List Telegram :=
  match slotOf r.slot with
  | none => refuse .append .badValue .none s
  | some c =>
    match s.vessel with
    | none => refuse .append .noVessel .none s
    | some v =>
      match readMove v r.move with
      | .error e => refuse .append e .none s
      | .ok m =>
        if s.inPool m.tag then refuse .append .duplicateTag .none s
        else
          match s.roomRefusal c with
          | some e => refuse .append e .none s
          | none => editAck m.tag c (some (s.queue c).length) (s.setQueue c (s.queue c ++ [m]))

/-- APPEND (R106). -/
def execAppend (b : Body AppendRequest) (s : State) : Host.Outcome State Fault Refusal :=
  s.request .plan .append b appendEvent

/-- INSERT (R107). -/
def insertEvent (r : EditRequest) (s : State) : State × List Telegram :=
  match s.vessel with
  | none => refuse .insert .noVessel .none s
  | some v =>
    match readMove v r.move with
    | .error e => refuse .insert e .none s
    | .ok m =>
      match s.findTag r.tag with
      | none => refuse .insert .unknownTag .none s
      | some (c, i, st) =>
        if st = .assigned then refuse .insert .locked .none s
        else if s.inPool m.tag then refuse .insert .duplicateTag .none s
        else
          match s.roomRefusal c with
          | some e => refuse .insert e .none s
          | none => editAck m.tag c (some i) (s.setQueue c ((s.queue c).insertIdx i m))

/-- INSERT (R107). -/
def execInsert (b : Body EditRequest) (s : State) : Host.Outcome State Fault Refusal :=
  s.request .plan .insert b insertEvent

/-- DELETE (R108). -/
def deleteEvent (tag : Nat) (s : State) : State × List Telegram :=
  match s.findTag tag with
  | none => refuse .delete .unknownTag .none s
  | some (c, i, st) =>
    if st = .assigned then refuse .delete .locked .none s
    else editAck tag c none (s.setQueue c ((s.queue c).eraseIdx i))

/-- DELETE (R108). -/
def execDelete (b : Body Nat) (s : State) : Host.Outcome State Fault Refusal := s.request .plan .delete b deleteEvent

/-- REPLACE (R109). -/
def replaceEvent (r : EditRequest) (s : State) : State × List Telegram :=
  match s.vessel with
  | none => refuse .replace .noVessel .none s
  | some v =>
    match readMove v r.move with
    | .error e => refuse .replace e .none s
    | .ok m =>
      match s.findTag r.tag with
      | none => refuse .replace .unknownTag .none s
      | some (c, i, st) =>
        if st = .assigned then refuse .replace .locked .none s
        else if m.tag ≠ r.tag ∧ s.inPool m.tag then refuse .replace .duplicateTag .none s
        else editAck m.tag c (some i) (s.setQueue c ((s.queue c).set i m))

/-- REPLACE (R109). -/
def execReplace (b : Body EditRequest) (s : State) : Host.Outcome State Fault Refusal :=
  s.request .plan .replace b replaceEvent

/-! ### Read-out (R112, R113) -/

/-- READ_QUEUE (R112). -/
def readQueueEvent (r : QueueRequest) (s : State) : State × List Telegram :=
  match slotOf r.slot with
  | none => refuse .readQueue .badValue .none s
  | some c =>
    if 160 ≤ r.index then refuse .readQueue .badValue .none s
    else
      planAck (.queue c r.index (s.queue c).length
        ((s.queue c).filter fun m => m.state == .assigned).length (groupsOf (s.queue c)).length s.poolCount)
        { s with cursor := { slot := c, index := r.index } }

/-- READ_QUEUE (R112). -/
def execReadQueue (b : Body QueueRequest) (s : State) : Host.Outcome State Fault Refusal :=
  s.request .plan .readQueue b readQueueEvent

/-- READ_NEXT (R113). -/
def readNextEvent (_ : Unit) (s : State) : State × List Telegram :=
  let q := s.queue s.cursor.slot
  match q[s.cursor.index]?, groupAt (groupsOf q) s.cursor.index with
  | some m, some (n, g) =>
    ({ s with cursor := { s.cursor with index := s.cursor.index + 1 } },
      [.readReply (.move s.cursor.slot s.cursor.index m n g.standing) none])
  | _, _ => (s, [.readReply (.queueEnd s.cursor.slot q.length) none])

/-- READ_NEXT (R113). -/
def execReadNext (b : Body Unit) (s : State) : Host.Outcome State Fault Refusal :=
  s.request .plan .readNext b readNextEvent

end Sys2Proof.Machine
end

