-- ==== Sys2Proof/Machine/Registry.lean ====
section
/-! DEFINITION. The commands of chapter 2: enrolment, position reports, the two slot timers, leaving. -/

namespace Sys2Proof.Machine

/-! ### Joins (R20 to R25) -/

/-- A slot is JOINING. -/
def State.isJoining (s : State) (c : Slot) : Bool :=
  match (s.crane c).slotState with
  | .joining _ => true
  | .down | .stale | .active => false

/-- Abandon the join in progress, if there is one: buffer and progress go, the timer stops, the slot returns to DOWN, and
CRANE_LOST is not raised (R22). -/
def State.abandonJoin (s : State) (c : Slot) : State :=
  if s.isJoining c then
    (s.setCrane c { s.crane c with slotState := .down, joinTimer := none }).reevaluate (s.concern c)
  else s

/-- A JOIN page answered with a refusal, the join in progress abandoned. -/
def State.refuseJoin (s : State) (c : Slot) (page : Nat) (r : JoinResult) : State × List Telegram :=
  (s.abandonJoin c, [.joinAck page r])

/-- A JOIN page answered while the state stays as it is. -/
def State.answerJoin (s : State) (page : Nat) (r : JoinResult) : State × List Telegram := (s, [.joinAck page r])

/-- A JOIN on a crane port. A wrong body length is answered PAGE_RANGE and abandons an open join (R177); on an unfitted slot
the answer is NOT_ALLOWED (R6). DESIGN CHOICE (log 5): the length check comes first, so a page of wrong length that is also
out of order, or that finds no join in progress, is answered PAGE_RANGE. -/
def State.joinRequest (s : State) (c : Slot) (page : Nat) (malformed : Bool)
    (event : State → State × List Telegram) : Host.Outcome State Fault Refusal :=
  .next ((s.telegramIn (.crane c)).answer (.crane c) fun s =>
    if malformed then s.refuseJoin c page .pageRange
    else if s.fitted c then event s
    else s.answerJoin page .notAllowed)

/-- A page 0 accepted: JOINING with page 1 expected and an empty buffer, the join timer started; from STALE or ACTIVE the
goal is cleared and the report limit timer stops (R21, R25, R29). -/
def State.startJoin (s : State) (c : Slot) : State :=
  ((s.setCrane c { s.crane c with
      slotState := .joining .awaitPage1, joinTimer := some s.config.joinTimer, reportTimer := none }).clearGoal
    c).reevaluate (s.concern c)

/-- JOIN page 0 on a fitted slot (R21). -/
def joinPage0Event (c : Slot) (p : Page0) (s : State) : State × List Telegram :=
  if p.slot ≠ c.val then s.refuseJoin c 0 .slotMismatch
  else if p.revision ≠ 1 ∨ p.follow ≠ 3 ∨ p.more = false then s.refuseJoin c 0 .pageRange
  else (s.startJoin c, [.joinAck 0 .ok])

/-- Store an accepted page 1 or 2: join progress advances and the join timer restarts (R22). -/
def State.storePage (s : State) (c : Slot) (j : Join) : State :=
  s.setCrane c { s.crane c with slotState := .joining j, joinTimer := some s.config.joinTimer }

/-- JOIN pages 1 and 2, and page numbers above 3, on a fitted slot (R20, R22). -/
def joinMiddleEvent (c : Slot) (b : JoinMiddle) (s : State) : State × List Telegram :=
  match b, (s.crane c).slotState with
  | .page1 more f, .joining .awaitPage1 =>
    if more && page1InRange f then (s.storePage c (.awaitPage2 f), [.joinAck 1 .ok]) else s.refuseJoin c 1 .pageRange
  | .page2 more f, .joining (.awaitPage2 one) =>
    if more && page2InRange f then (s.storePage c (.awaitPage3 one f), [.joinAck 2 .ok])
    else s.refuseJoin c 2 .pageRange
  | .page1 _ _, _ => s.refuseJoin c 1 .pageOrder
  | .page2 _ _, _ => s.refuseJoin c 2 .pageOrder
  | .above page, _ => s.refuseJoin c page .pageOrder
  | .malformed page, _ => s.refuseJoin c page .pageRange

/-- Complete a join: the pages become the declared geometry, the slot goes to STALE, the crane and its neighbours are
re-evaluated, and a change of the geometry in force attempts the crane's PENDING request (R23, R18, R142, log 20). -/
def State.completeJoin (s : State) (c : Slot) (g : Geometry) : State :=
  let s' := (s.setCrane c { s.crane c with
    slotState := .stale, declared := some g, joinTimer := none }).reevaluate (s.concern c)
  if (s.override c).isSome then s' else s'.attempt c

/-- JOIN page 3 on a fitted slot (R20, R22, R23). -/
def joinLastEvent (c : Slot) (p : JoinLast) (s : State) : State × List Telegram :=
  match (s.crane c).slotState with
  | .joining (.awaitPage3 one two) =>
    if !p.more && page3InRange p.lanes then
      (s.completeJoin c { rail := one, hoist := two, lanes := p.lanes },
        [.joinAck 3 (if (s.override c).isSome then .overridden else .ok)])
    else s.refuseJoin c 3 .pageRange
  | _ => s.refuseJoin c 3 .pageOrder

/-- JOIN_PAGE_0 (R21). -/
def execJoinPage0 (c : Slot) (b : Body Page0) (s : State) : Host.Outcome State Fault Refusal :=
  match b with
  | .malformed => s.joinRequest c 0 true fun s => s.answerJoin 0 .pageRange
  | .fields p => s.joinRequest c 0 false (joinPage0Event c p)

/-- JOIN_PAGE_1_2 (R22, R20). -/
def execJoinPage12 (c : Slot) (b : JoinMiddle) (s : State) : Host.Outcome State Fault Refusal :=
  match b with
  | .malformed page => s.joinRequest c page true (joinMiddleEvent c b)
  | .page1 _ _ => s.joinRequest c 1 false (joinMiddleEvent c b)
  | .page2 _ _ => s.joinRequest c 2 false (joinMiddleEvent c b)
  | .above page => s.joinRequest c page false (joinMiddleEvent c b)

/-- JOIN_PAGE_3 (R23). -/
def execJoinPage3 (c : Slot) (b : Body JoinLast) (s : State) : Host.Outcome State Fault Refusal :=
  match b with
  | .malformed => s.joinRequest c 3 true fun s => s.answerJoin 3 .pageRange
  | .fields p => s.joinRequest c 3 false (joinLastEvent c p)

/-- JOIN_TIMER_EXPIRY: a running join timer runs out and the join is abandoned without a telegram (R24). A stopped timer
does not run out (log 7). -/
def execJoinTimerExpiry (c : Slot) (s : State) : Host.Outcome State Fault Refusal :=
  .next (if (s.crane c).joinTimer.isSome then s.abandonJoin c else s)

/-! ### Position reports (R26 to R29) -/

/-- A velocity held within -255..255 (R26). -/
def heldVelocity (v : Int) : Int := hold (-255) 255 v

/-- Store an accepted POSITION: position, velocity and time, the report limit timer restarted, the slot ACTIVE (R26). -/
def State.storePosition (s : State) (c : Slot) (r : PositionReport) : State :=
  s.setCrane c { s.crane c with
    slotState := .active, lastPosition := some r.position, lastVelocity := heldVelocity r.velocity,
    lastReportTime := some s.clock, reportTimer := some s.config.reportLimit }

/-- Arrival: a goal within the arrive tolerance of the reported position is cleared (R27). -/
def State.arriveAtGoal (s : State) (c : Slot) (position : Nat) : State :=
  match (s.spanOf c).goal with
  | some g => if distance position g ≤ s.config.arriveTolerance then s.clearGoal c else s
  | none => s

/-- The drift check of a crane with a group in flight (R28). -/
def State.checkDrift (s : State) (c : Slot) (position : Nat) : State :=
  match s.flight c with
  | some f =>
    if s.config.bayTolerance < distance position f.workPosition ∧ (s.crane c).driftMark = false then
      (s.setCrane c { s.crane c with driftMark := true }).raise .craneDrift (.drift c f.first s.clock)
    else s
  | none => s

/-- An accepted POSITION: stored, arrival and drift, then the re-evaluation (R26, R27, R28). -/
def State.takePosition (s : State) (c : Slot) (r : PositionReport) : State :=
  let s := ((s.storePosition c r).arriveAtGoal c r.position).checkDrift c r.position
  s.reevaluate (s.concern c)

/-- POSITION on a fitted slot (R26). -/
def positionEvent (c : Slot) (r : PositionReport) (s : State) : State × List Telegram :=
  match (s.crane c).slotState with
  | .stale | .active =>
    let s' := s.takePosition c r
    (s', [s'.windowReply c (decide (heldVelocity r.velocity ≠ r.velocity))])
  | .down | .joining _ => refuse .position .notActive .none s

/-- POSITION (R26). -/
def execPosition (c : Slot) (b : Body PositionReport) (s : State) : Host.Outcome State Fault Refusal :=
  s.craneRequest c .position b (positionEvent c)

/-- REPORT_LIMIT_EXPIRY: the slot goes STALE, its goal is cleared, and the crane and its neighbours are re-evaluated (R29).
A stopped timer does not run out (log 7). -/
def execReportLimitExpiry (c : Slot) (s : State) : Host.Outcome State Fault Refusal :=
  .next (if (s.crane c).reportTimer.isSome then
    ((s.setCrane c { s.crane c with slotState := .stale, reportTimer := none }).clearGoal c).reevaluate (s.concern c)
  else s)

/-! ### Leaving (R30) -/

/-- LEAVE on a fitted slot (R30). -/
def leaveEvent (c : Slot) (_ : Unit) (s : State) : State × List Telegram :=
  if (s.flight c).isSome then refuse .leave .moveInFlight .none s
  else if (s.crane c).slotState = .down then (s, [s.windowReply c false])
  else
    let s' := s.craneLost c
    (s', [s'.windowReply c false])

/-- LEAVE (R30). -/
def execLeave (c : Slot) (b : Body Unit) (s : State) : Host.Outcome State Fault Refusal :=
  s.craneRequest c .leave b (leaveEvent c)

end Sys2Proof.Machine
end

