-- ==== Sys2Proof/Machine/Sections.lean ====
section
/-! DEFINITION. The commands on the vessel and its sections (R11, R12, R64). -/

namespace Sys2Proof.Machine

/-! ### OPEN_BERTH (R11) -/

/-- The section records an accepted OPEN_BERTH creates (Table 1.5). -/
def createdSections (v : Vessel) : List Section := (sectionPositions v).map fun p => Section.created p.toNat

/-- OPEN_BERTH (R11). -/
def openBerthEvent (r : VesselRequest) (s : State) : State × List Telegram :=
  if s.vessel.isSome then refuse .openBerth .berthBusy .none s
  else
    match vesselOf r with
    | none => refuse .openBerth .badValue .none s
    | some v =>
      if positionsInRange v then planAck .taken { s with vessel := some v, sections := createdSections v }
      else refuse .openBerth .positionRange .none s

/-- OPEN_BERTH (R11). -/
def execOpenBerth (b : Body VesselRequest) (s : State) : Host.Outcome State Fault Refusal :=
  s.request .plan .openBerth b openBerthEvent

/-! ### CLEAR_BERTH (R12) -/

/-- Some crane has a group in flight. -/
def State.anyFlight (s : State) : Bool := all8.any fun c => (s.flight c).isSome

/-- A gang is ABOARD or WAITING. -/
def Gang.onVessel : Gang → Bool
  | .waiting _ _ _ | .aboard _ _ _ _ _ => true
  | .off | .ashore _ => false

/-- Some gang is ABOARD or WAITING. -/
def State.anyGang (s : State) : Bool := all8.any fun g => (s.gang g).onVessel

/-- Some stand is in a state other than FREE. -/
def State.anyStand (s : State) : Bool := all8.any fun c => all8.any fun l => (s.stand c l).name != .free

/-- CLEAR_BERTH (R12). -/
def clearBerthEvent (_ : Unit) (s : State) : State × List Telegram :=
  if s.vessel.isNone then refuse .clearBerth .noVessel .none s
  else if s.anyFlight || s.anyGang || s.anyStand then refuse .clearBerth .berthBusy .none s
  else planAck .taken { s with vessel := none, sections := [], queues := Vector.replicate 8 [] }

/-- CLEAR_BERTH (R12). -/
def execClearBerth (b : Body Unit) (s : State) : Host.Outcome State Fault Refusal :=
  s.request .plan .clearBerth b clearBerthEvent

/-! ### SECTION_SET (R64) -/

/-- A section with its counters and hatch replaced, counters held at their range ends (R64). -/
def Section.replaced (r : Section) (q : SectionRequest) (h : Hatch) : Section :=
  { r with unlash := min 1023 q.unlash, lash := min 1023 q.lash, tally := min 255 q.tally, hatch := h }

/-- A counter value of a SECTION_SET was held (R64). -/
def requestHeld (q : SectionRequest) : Bool :=
  decide (1023 < q.unlash) || decide (1023 < q.lash) || decide (255 < q.tally)

/-- SECTION_SET (R64). -/
def sectionSetEvent (q : SectionRequest) (s : State) : State × List Telegram :=
  if s.vessel.isNone then refuse .sectionSet .noVessel .none s
  else if q.index = 0 ∨ s.sectionCount < q.index then refuse .sectionSet .sectionRange .none s
  else
    match hatchOf q.hatch with
    | none => refuse .sectionSet .badValue .none s
    | some h =>
      if (s.section? q.index).any fun r => r.claim.isSome || r.gang.isSome then
        refuse .sectionSet .sectionBusy .none s
      else planAck (.sectionSet (requestHeld q)) (s.changeSection q.index fun r => r.replaced q h)

/-- SECTION_SET (R64). -/
def execSectionSet (b : Body SectionRequest) (s : State) : Host.Outcome State Fault Refusal :=
  s.request .plan .sectionSet b sectionSetEvent

end Sys2Proof.Machine
end

