-- ==== Sys2Proof/Machine/Travel.lean ====
section
/-! DEFINITION. The commands of chapter 3: travel goals, the gap sensor lines and the QUAY-HALT line. -/

namespace Sys2Proof.Machine

/-! ### Travel goals (R43 to R46) -/

/-- The first reason to refuse a TRAVEL, in the order of R43. -/
def State.travelRefusal (s : State) (c : Slot) : Option Reason :=
  if s.mode ≠ .operating then some .notOperating
  else if s.halted then some .halted
  else if (s.crane c).slotState ≠ .active then some .notActive
  else if (s.flight c).isSome then some .moveInFlight
  else if (s.window c).isEmpty then some .windowEmpty
  else none

/-- The target held into the crane's window (R44). -/
def State.grantedGoal (s : State) (c : Slot) (target : Nat) : Nat :=
  (hold (s.window c).lo (s.window c).hi target).toNat

/-- Store a granted goal and re-evaluate (R44, R41). -/
def State.grantGoal (s : State) (c : Slot) (goal : Nat) : State :=
  (s.setSpan c { s.spanOf c with goal := some goal }).reevaluate (s.concern c)

/-- TRAVEL on a fitted slot (R43, R44). -/
def travelEvent (c : Slot) (target : Nat) (s : State) : State × List Telegram :=
  match s.travelRefusal c with
  | some r => refuse .travel r .none s
  | none =>
    let goal := s.grantedGoal c target
    let s' := s.grantGoal c goal
    (s', [.travelGrant goal (heldPosition (s'.window c).lo) (heldPosition (s'.window c).hi)
      (decide (goal ≠ target)) (s'.window c).held])

/-- TRAVEL (R43). -/
def execTravel (c : Slot) (b : Body Nat) (s : State) : Host.Outcome State Fault Refusal :=
  s.craneRequest c .travel b (travelEvent c)

/-- Clear a held goal and re-evaluate; with no goal held nothing changes (R45). -/
def State.cancelGoal (s : State) (c : Slot) : State :=
  if (s.spanOf c).goal.isSome then (s.clearGoal c).reevaluate (s.concern c) else s

/-- TRAVEL_CANCEL on a fitted slot (R45). -/
def travelCancelEvent (c : Slot) (_ : Unit) (s : State) : State × List Telegram :=
  match (s.crane c).slotState with
  | .stale | .active =>
    let s' := s.cancelGoal c
    (s', [s'.windowReply c false])
  | .down | .joining _ => refuse .travelCancel .notActive .none s

/-- TRAVEL_CANCEL (R45). -/
def execTravelCancel (c : Slot) (b : Body Unit) (s : State) : Host.Outcome State Fault Refusal :=
  s.craneRequest c .travelCancel b (travelCancelEvent c)

/-! ### Gap sensor lines (R54 to R56) -/

/-- A change to this level matches an edge mode (Table 3.7). -/
def edgeMatches (m : SensorMode) (level : Level) : Bool :=
  match m, level with
  | .rise, .high => true
  | .fall, .low => true
  | .both, _ => true
  | _, _ => false

/-- A line serving a pair takes a change of level: a matching edge sets its latch (R54). On any other line the level alone
changes (R53). -/
def State.lineTo (s : State) (k : LineNo) (level : Level) : State :=
  let s' : State := { s with sensorLevels := put s.sensorLevels k level }
  if s.config.serves k && edgeMatches (entry s.config.sensorModes k) level then
    { s' with latches := put s.latches k true }
  else s'

/-- SENSOR_LINE_CHANGE: a beginning or an end of the pair's trip re-evaluates both cranes, a beginning raises its alerts
(R54, R55, R56). A line already at the level has not changed. -/
def execSensorLineChange (k : LineNo) (level : Level) (s : State) : Host.Outcome State Fault Refusal :=
  .next (if entry s.sensorLevels k = level then s
    else
      let s' := s.lineTo k level
      if s'.tripped k = s.tripped k then s'
      else
        let s'' := s'.reevaluate [lineWest k, lineEast k]
        if s'.tripped k then s''.raiseTrips [k] else s'')

/-! ### QUAY-HALT (R58, R59) -/

/-- Follow the QUAY-HALT line and its polarity: a beginning raises QUAY_HALT, and either change re-evaluates every fitted
crane (R58, R59). -/
def State.followHalt (s : State) : State :=
  let active := s.haltLine == s.config.haltPolarity
  if active = s.halted then s
  else
    let s' := ({ s with halted := active } : State).reevaluate s.fittedSlots
    if active then s'.raise .quayHalt (.halt s.clock) else s'

/-- QUAY_HALT_CHANGE (R58). -/
def execQuayHaltChange (level : Level) (s : State) : Host.Outcome State Fault Refusal :=
  .next (({ s with haltLine := level } : State).followHalt)

end Sys2Proof.Machine
end

