-- ==== Sys2Proof/Machine/Setup.lean ====
section
/-! DEFINITION. The commands of chapter 10: power-on, the part modes, the configuration and the geometry overrides. -/

namespace Sys2Proof.Machine

/-- POWER_ON: every part of the state at its power-on value (R168), with the input lines at the levels they stand at. The
commands still waiting outside are no part of the block and stay queued. -/
def execPowerOn (haltLine : Level) (sensors : Vector Level 7) (s : State) : Host.Outcome State Fault Refusal :=
  .next { State.poweredOn haltLine sensors with pending := s.pending }

/-! ### SETUP (R169) -/

/-- Entry to SETUP: goals and empty marks cleared and every fitted crane re-evaluated (R169, R62). -/
def State.enterSetup (s : State) : State :=
  let s' : State := { s with
    mode := .setup
    span := table8 fun c => { s.spanOf c with goal := none, emptyMark := false } }
  s'.reevaluate s'.fittedSlots

/-- SETUP (R169). -/
def setupEvent (_ : Unit) (s : State) : State × List Telegram :=
  if s.mode = .setup then planAck (.mode .setup) s
  else if s.anyFlight || s.anyGang then refuse .setup .busy .none s
  else planAck (.mode .setup) s.enterSetup

/-- SETUP (R169). -/
def execSetup (b : Body Unit) (s : State) : Host.Outcome State Fault Refusal := s.request .plan .setup b setupEvent

/-! ### OPERATE (R170) -/

/-- The fitted slots whose park position fails check 2 of R170: outside the limits, or not above that of the fitted slot
before it. -/
def ConfigSet.badParks (cfg : ConfigSet) : List Slot :=
  all8.filter fun c => cfg.isFitted c &&
    !(decide (cfg.westLimit ≤ entry cfg.park c ∧ entry cfg.park c ≤ cfg.eastLimit) &&
      (match cfg.westNeighbour c with
        | some b => decide (entry cfg.park b < entry cfg.park c)
        | none => true))

/-- The lines that are neither DISABLED nor serve a pair (R170 check 3). -/
def ConfigSet.badLines (cfg : ConfigSet) : List LineNo :=
  all7.filter fun k => entry cfg.sensorModes k != .disabled && !cfg.serves k

/-- The first check of R170 that fails. -/
def ConfigSet.operateFault (cfg : ConfigSet) : Option OperateFault :=
  if cfg.eastLimit ≤ cfg.westLimit then some .limits
  else
    match cfg.badParks, cfg.badLines with
    | c :: _, _ => some (.park c)
    | [], k :: _ => some (.line k)
    | [], [] => none

/-- OPERATING begins: every fitted crane is re-evaluated (R170, R62). -/
def State.enterOperating (s : State) : State := ({ s with mode := .operating } : State).reevaluate s.fittedSlots

/-- OPERATE (R170). -/
def operateEvent (_ : Unit) (s : State) : State × List Telegram :=
  if s.mode = .operating then planAck (.mode .operating) s
  else
    match s.config.operateFault with
    | some f => refuse .operate .badValue (.operate f) s
    | none => planAck (.mode .operating) s.enterOperating

/-- OPERATE (R170). -/
def execOperate (b : Body Unit) (s : State) : Host.Outcome State Fault Refusal :=
  s.request .plan .operate b operateEvent

/-! ### CONFIG (R171, R172) -/

/-- The first failure of a CONFIG list, with the item that failed: the length, then the names and numbers of the whole list,
then the mode, then the values (R171). DEDUCED (log 15): one pass over the list for each check, and the length before the
names, so that a list too long names no item even where it holds a bad name. -/
def configRefusal (mode : PartMode) (items : List ConfigItem) : Option (Reason × RefuseInfo) :=
  if items.length = 0 ∨ 32 < items.length then some (.badValue, .none)
  else
    match items.find? (fun i => !configNamed i) with
    | some i => some (.badValue, .item i)
    | none =>
      match items.find? (fun i => mode == .operating && configSetupOnly i) with
      | some i => some (.notInSetup, .item i)
      | none =>
        match items.find? (fun i => !configInRange i) with
        | some i => some (.badValue, .item i)
        | none => none

/-- A list of items stored one after another: an item named twice takes the later value (R171). -/
def storeItems (cfg : ConfigSet) (items : List ConfigItem) : ConfigSet := items.foldl configStore cfg

/-- A slot made unfitted by a change of the fitted mask (R6). -/
def unfits (old new : ConfigSet) (c : Slot) : Bool := old.isFitted c && !new.isFitted c

/-- A line whose mode the change alters, or whose pair loses a slot: its latch is cleared and its trip ends (R57). -/
def lineEnds (old new : ConfigSet) (k : LineNo) : Bool :=
  entry old.sensorModes k != entry new.sensorModes k ||
    unfits old new (lineWest k) || unfits old new (lineEast k)

/-- The change alters an item the Span Computer uses (R62). -/
def spanItemsDiffer (old new : ConfigSet) : Bool :=
  old.fitted != new.fitted || old.park != new.park || old.westLimit != new.westLimit ||
    old.eastLimit != new.eastLimit || old.clearance != new.clearance || old.startMargin != new.startMargin ||
    old.nearDistance != new.nearDistance || old.hysteresis != new.hysteresis || old.creepSpeed != new.creepSpeed ||
    old.sensorModes != new.sensorModes || old.haltPolarity != new.haltPolarity

/-- Store the new configuration with what its change of fitting and sensor modes resets: records of slots made unfitted
(R6), watch states of pairs that cease (R51), latches (R57). -/
def State.refit (s : State) (new : ConfigSet) : State :=
  { s with
    config := new
    cranes := table8 fun c => if unfits s.config new c then CraneRecord.reset else s.crane c
    span := table8 fun c => if unfits s.config new c then SpanRecord.reset else s.spanOf c
    watches := table8 fun w => if new.pairEast w == s.config.pairEast w then s.watch w else none
    latches := table7 fun k => if lineEnds s.config new k then false else entry s.latches k }

/-- The lines whose trip begins at a CONFIG: tripped after it, and either not tripped before or taken up anew in a changed
mode (R55, R57). -/
def State.tripsBegun (old s : State) : List LineNo :=
  all7.filter fun k => s.tripped k &&
    (!old.tripped k || entry old.config.sensorModes k != entry s.config.sensorModes k)

/-- The halt state after a CONFIG (R58): followed without the re-evaluation, which the CONFIG makes once for all. -/
def State.haltBegins (s : State) : Bool := (s.haltLine == s.config.haltPolarity) && !s.halted

/-- A changed check interval applies at once to every running check-in timer, in ascending order of gang id (R94). -/
def State.applyCheckInterval (s : State) (old : ConfigSet) : State :=
  if old.checkInterval = s.config.checkInterval then s else all8.foldl State.superviseGang s

/-- An accepted CONFIG: the items stored in one event, then the blocks apply the changes together (R171, R172). The cranes
are re-evaluated where an item of the Span Computer or the halt state changed (R41, log 16). -/
def State.applyConfig (s : State) (items : List ConfigItem) : State :=
  let new := storeItems s.config items
  let s1 := s.refit new
  let begins := s1.haltBegins
  let s2 : State := { s1 with halted := s1.haltLine == new.haltPolarity }
  let s3 := if spanItemsDiffer s.config new || s2.halted != s.halted then s2.reevaluate s2.fittedSlots else s2
  let s4 := s3.raiseTrips (State.tripsBegun s s3)
  let s5 := if begins then s4.raise .quayHalt (.halt s.clock) else s4
  (s5.applyCheckInterval s.config).driveAttn

/-- CONFIG (R171). -/
def configEvent (items : List ConfigItem) (s : State) : State × List Telegram :=
  match configRefusal s.mode items with
  | some (r, i) => refuse .config r i s
  | none => planAck (.config (items.map (configStored (storeItems s.config items)))) (s.applyConfig items)

/-- CONFIG (R171). -/
def execConfig (b : Body (List ConfigItem)) (s : State) : Host.Outcome State Fault Refusal :=
  s.request .plan .config b configEvent

/-! ### OVERRIDE_GEOMETRY (R173) -/

/-- Set or remove a slot's override; the geometry in force changes at once, the crane and its neighbours are re-evaluated
and the crane's PENDING request is attempted (R173, R18, R142). -/
def State.setOverride (s : State) (c : Slot) (g : Option Geometry) : State :=
  let s' : State := { s with overrides := put s.overrides c g }
  (s'.reevaluate (s'.concern c)).attempt c

/-- The PLAN_ACK of an OVERRIDE_GEOMETRY: the geometry now in force and its source (R173). -/
def geometryAck (c : Slot) (s : State) : State × List Telegram :=
  planAck (.geometry c (s.geometry c) (s.geometrySource c)) s

/-- OVERRIDE_GEOMETRY (R173). -/
def overrideEvent (r : OverrideRequest) (s : State) : State × List Telegram :=
  match slotOf r.slot with
  | none => refuse .overrideGeometry .badValue .none s
  | some c =>
    if s.mode = .operating then refuse .overrideGeometry .notInSetup .none s
    else
      match r.ask with
      | .incomplete => refuse .overrideGeometry .badValue .none s
      | .fields g =>
        if geometryInRange g then geometryAck c (s.setOverride c (some g))
        else refuse .overrideGeometry .badValue .none s
      | .remove => geometryAck c (if (s.override c).isSome then s.setOverride c none else s)

/-- OVERRIDE_GEOMETRY (R173). -/
def execOverrideGeometry (b : Body OverrideRequest) (s : State) : Host.Outcome State Fault Refusal :=
  s.request .plan .overrideGeometry b overrideEvent

end Sys2Proof.Machine
end

