-- ==== Sys2Proof/Machine/Status.lean ====
section
/-! DEFINITION. The five kinds of STATUS: snapshots that change nothing (R61, R79, R97, R158, R174). -/

namespace Sys2Proof.Machine

/-- The telegrams of a STATUS reply: one, or a run each with its sequence number and last mark, all of one snapshot; how
many is free (R179, log 12). -/
def statusReply (snap : Snapshot) : List Telegram :=
  let n := Config.statusRun snap
  if n ≤ 1 then [.readReply snap none]
  else (List.range n).map fun i => .readReply snap (some (i, i + 1 == n))

/-- A STATUS: answered with a snapshot, changing nothing. -/
def statusEvent (snap : State → Snapshot) (_ : Unit) (s : State) : State × List Telegram := (s, statusReply (snap s))

/-! ### STATUS span (R61) -/

/-- The east side of a crane: its pair's watch state and gap, and trip state. -/
def State.eastSide (s : State) (c : Slot) : SideStatus where
  watch := if (s.east c).isSome then s.watch c else none
  gap := (s.east c).map fun e => s.gap c e
  tripped := s.trippedEast c

/-- The west side of a crane. -/
def State.westSide (s : State) (c : Slot) : SideStatus where
  watch := (s.west c).bind s.watch
  gap := (s.west c).map fun w => s.gap w c
  tripped := s.trippedWest c

/-- One fitted crane (R61, R17). -/
def State.craneStatus (s : State) (c : Slot) : CraneStatus where
  slot := c
  slotState := (s.crane c).slotState.name
  position := s.positionUsed c
  neverReported := (s.crane c).lastPosition.isNone
  velocity := (s.crane c).lastVelocity
  reportTime := (s.crane c).lastReportTime
  lo := heldPosition (s.window c).lo
  hi := heldPosition (s.window c).hi
  saturated := (s.window c).held
  goal := (s.spanOf c).goal
  eastPermit := (s.spanOf c).eastPermit
  westPermit := (s.spanOf c).westPermit
  east := s.eastSide c
  west := s.westSide c
  emptyMark := (s.spanOf c).emptyMark

/-- The span snapshot: every fitted crane in slot order, and the halt state (R61). -/
def spanSnapshot (s : State) : Snapshot := .span (s.fittedSlots.map s.craneStatus) s.halted

/-- STATUS_SPAN (R61). -/
def execStatusSpan (b : Body Unit) (s : State) : Host.Outcome State Fault Refusal :=
  s.request .plan .status b (statusEvent spanSnapshot)

/-! ### STATUS sections (R79) -/

/-- The vessel record and every section record in ascending order (R79). -/
def sectionsSnapshot (s : State) : Snapshot := .sections s.vessel s.sections

/-- STATUS_SECTIONS (R79). -/
def execStatusSections (b : Body Unit) (s : State) : Host.Outcome State Fault Refusal :=
  s.request .plan .status b (statusEvent sectionsSnapshot)

/-! ### STATUS stands (R158) -/

/-- The trucks of the groups in flight, in slot order. -/
def State.truckStatuses (s : State) : List TruckStatus :=
  all8.filterMap fun c => (s.flight c).map fun f =>
    { slot := c, truck := f.truck, lane := f.lane, truckId := f.truckId, recallCount := f.recallCount }

/-- The stand snapshot (R158): the 64 stands in slot and lane order, each with the fields of Table 8.1. -/
def standsSnapshot (s : State) : Snapshot :=
  .stands s.laneMask s.lanePort.linkUp s.pointers s.callCounter
    (table8 fun c => table8 fun l => (s.stand c l).shown) s.truckStatuses

/-- STATUS_STANDS (R158). -/
def execStatusStands (b : Body Unit) (s : State) : Host.Outcome State Fault Refusal :=
  s.request .plan .status b (statusEvent standsSnapshot)

/-! ### STATUS gangs (R97) -/

/-- A gang's place in its section's waiting list, 1 for the head (R86, R97). -/
def State.placeOf (s : State) (g : GangId) (i : Nat) : Option Nat :=
  (s.section? i).bind fun r => (r.waiting.findIdx? (· == g)).map (· + 1)

/-- One gang record as STATUS gangs shows it (R97). -/
def State.gangStatus (s : State) (g : GangId) : GangStatus where
  gang := s.gang g
  place := match s.gang g with
    | .waiting _ i _ => s.placeOf g i
    | .off | .ashore _ | .aboard _ _ _ _ _ => none
  sinceCheck := match s.gang g with
    | .aboard _ _ _ last _ => some (timeSince s.clock last)
    | .off | .ashore _ | .waiting _ _ _ => none

/-- The gang snapshot (R97). -/
def gangsSnapshot (s : State) : Snapshot := .gangs (table8 s.gangStatus)

/-- STATUS_GANGS (R97). -/
def execStatusGangs (b : Body Unit) (s : State) : Host.Outcome State Fault Refusal :=
  s.request .plan .status b (statusEvent gangsSnapshot)

/-! ### STATUS mode (R174) -/

/-- The geometry in force, its source and the override of a slot (R174). -/
def State.geometryStatus (s : State) (c : Slot) : GeometryStatus where
  inForce := s.geometry c
  source := s.geometrySource c
  override := s.override c

/-- The mode snapshot (R174). -/
def modeSnapshot (s : State) : Snapshot :=
  .mode s.mode s.config (table8 s.geometryStatus) (table8 fun c => (entry s.cranePorts c).linkUp)
    s.lanePort.linkUp s.gangPort.linkUp s.planPort.linkUp s.halted s.clock

/-- STATUS_MODE (R174). -/
def execStatusMode (b : Body Unit) (s : State) : Host.Outcome State Fault Refusal :=
  s.request .plan .status b (statusEvent modeSnapshot)

end Sys2Proof.Machine
end

