-- ==== Sys2Proof/WellFormed.lean ====
section
/-! DEFINITION. Which commands a link can carry: the widths that R180 gives its fields, and which row of the opcode table
a JOIN page or a PHASE value belongs to. A value a rule refuses or clamps is well formed: the refusal is the rule's. -/

namespace Sys2Proof

/-- A field of two bytes (R180: positions, tags, call numbers, truck ids and heights). -/
def twoBytes (n : Nat) : Bool := decide (n < 65536)

/-- A field of one byte. -/
def oneByte (n : Nat) : Bool := decide (n < 256)

/-- A velocity: a signed 16-bit value (R180). -/
def velocityField (v : Int) : Bool := decide (-32768 ≤ v ∧ v ≤ 32767)

/-- Every field of a body passes its check; a malformed body has no field. -/
def Body.all {α : Type} (ok : α → Bool) : Body α → Bool
  | .fields x => ok x
  | .malformed => true

/-- JOIN_PAGE_1_2's row holds every page number of a byte but 0 and 3 (Table 2.5, R20). -/
def JoinMiddle.wellFormed : JoinMiddle → Bool
  | .page1 _ _ => true
  | .page2 _ _ => true
  | .above page => decide (3 < page) && oneByte page
  | .malformed page => decide (page ≠ 0 ∧ page ≠ 3) && oneByte page

/-- PHASE_LOCKED's row holds every phase value but those of ALOFT and LANDED (Table 11.4). -/
def PhaseReport.wellFormed (r : PhaseReport) : Bool :=
  decide (r.code ≠ 3 ∧ r.code ≠ 4) && oneByte r.code && twoBytes r.tag

/-- The two-byte fields of a move record (R180). -/
def MoveRequest.wellFormed (m : MoveRequest) : Bool := twoBytes m.tag && twoBytes m.height

/-- A command that its link can carry. -/
def Instr.wellFormed : Instr → Bool
  | .powerOn _ _ => true
  | .joinPage0 _ _ => true
  | .joinPage12 _ b => b.wellFormed
  | .joinPage3 _ _ => true
  | .joinTimerExpiry _ => true
  | .position _ b => b.all fun r => twoBytes r.position && velocityField r.velocity
  | .reportLimitExpiry _ => true
  | .travel _ b => b.all twoBytes
  | .travelCancel _ _ => true
  | .leave _ _ => true
  | .take _ _ => true
  | .phaseLocked _ b => b.all PhaseReport.wellFormed
  | .phaseAloft _ b => b.all twoBytes
  | .phaseLanded _ b => b.all twoBytes
  | .abandon _ b => b.all twoBytes
  | .setBack _ b => b.all twoBytes
  | .lanes _ => true
  | .arrive b => b.all fun r => twoBytes r.call && oneByte r.slot && oneByte r.lane && twoBytes r.truck
  | .gone b => b.all fun r => twoBytes r.truck
  | .clear _ => true
  | .callDeadlineExpiry _ _ => true
  | .signOn _ => true
  | .signOff _ => true
  | .enter _ => true
  | .units _ => true
  | .check _ => true
  | .exit _ => true
  | .checkInTimerExpiry _ => true
  | .setup _ => true
  | .operate _ => true
  | .config _ => true
  | .overrideGeometry _ => true
  | .openBerth b => b.all fun v => twoBytes v.reference
  | .clearBerth _ => true
  | .sectionSet _ => true
  | .append b => b.all fun r => r.move.wellFormed
  | .insert b => b.all fun r => twoBytes r.tag && r.move.wellFormed
  | .delete b => b.all twoBytes
  | .replace b => b.all fun r => twoBytes r.tag && r.move.wellFormed
  | .readQueue _ => true
  | .readNext _ => true
  | .logRead _ => true
  | .logFree b => b.all twoBytes
  | .alertRead _ => true
  | .alertAck _ => true
  | .recall b => b.all twoBytes
  | .forceRelease _ => true
  | .statusSpan _ => true
  | .statusSections _ => true
  | .statusStands _ => true
  | .statusGangs _ => true
  | .statusMode _ => true
  | .sensorLineChange _ _ => true
  | .quayHaltChange _ => true
  | .linkSilenceExpiry _ => true
  | .interByteGapExpiry _ => true
  | .quayClockAdvance => true
  | .byteArrival _ _ _ => true
  | .telegramSent _ => true

end Sys2Proof
end

