-- ==== Sys2Proof/Machine/Link.lean ====
section
/-! DEFINITION. The events of the links and of time: bytes, gaps, silence, telegrams sent, the Quay Clock (R4, R176 to
R179). -/

namespace Sys2Proof.Machine

/-! ### From a valid telegram to its command (R176, R177) -/

/-- The port and the request type of a telegram command; none for the other commands. -/
def telegramOf : Instr → Option (PortId × RequestType)
  | .joinPage0 c _ => some (.crane c, .join)
  | .joinPage12 c _ => some (.crane c, .join)
  | .joinPage3 c _ => some (.crane c, .join)
  | .position c _ => some (.crane c, .position)
  | .travel c _ => some (.crane c, .travel)
  | .travelCancel c _ => some (.crane c, .travelCancel)
  | .leave c _ => some (.crane c, .leave)
  | .take c _ => some (.crane c, .take)
  | .phaseLocked c _ => some (.crane c, .phase)
  | .phaseAloft c _ => some (.crane c, .phase)
  | .phaseLanded c _ => some (.crane c, .phase)
  | .abandon c _ => some (.crane c, .abandon)
  | .setBack c _ => some (.crane c, .setBack)
  | .lanes _ => some (.lane, .lanes)
  | .arrive _ => some (.lane, .arrive)
  | .gone _ => some (.lane, .gone)
  | .clear _ => some (.lane, .clear)
  | .signOn _ => some (.gang, .signOn)
  | .signOff _ => some (.gang, .signOff)
  | .enter _ => some (.gang, .enter)
  | .units _ => some (.gang, .units)
  | .check _ => some (.gang, .check)
  | .exit _ => some (.gang, .exit)
  | .setup _ => some (.plan, .setup)
  | .operate _ => some (.plan, .operate)
  | .config _ => some (.plan, .config)
  | .overrideGeometry _ => some (.plan, .overrideGeometry)
  | .openBerth _ => some (.plan, .openBerth)
  | .clearBerth _ => some (.plan, .clearBerth)
  | .sectionSet _ => some (.plan, .sectionSet)
  | .append _ => some (.plan, .append)
  | .insert _ => some (.plan, .insert)
  | .delete _ => some (.plan, .delete)
  | .replace _ => some (.plan, .replace)
  | .readQueue _ => some (.plan, .readQueue)
  | .readNext _ => some (.plan, .readNext)
  | .logRead _ => some (.plan, .logRead)
  | .logFree _ => some (.plan, .logFree)
  | .alertRead _ => some (.plan, .alertRead)
  | .alertAck _ => some (.plan, .alertAck)
  | .recall _ => some (.plan, .recall)
  | .forceRelease _ => some (.plan, .forceRelease)
  | .statusSpan _ => some (.plan, .status)
  | .statusSections _ => some (.plan, .status)
  | .statusStands _ => some (.plan, .status)
  | .statusGangs _ => some (.plan, .status)
  | .statusMode _ => some (.plan, .status)
  | .powerOn _ _ => none
  | .joinTimerExpiry _ => none
  | .reportLimitExpiry _ => none
  | .callDeadlineExpiry _ _ => none
  | .checkInTimerExpiry _ => none
  | .sensorLineChange _ _ => none
  | .quayHaltChange _ => none
  | .linkSilenceExpiry _ => none
  | .interByteGapExpiry _ => none
  | .quayClockAdvance => none
  | .byteArrival _ _ _ => none
  | .telegramSent _ => none

/-- The page number of a JOIN command, its first body byte (R177). -/
def joinPage : Instr → Option Nat
  | .joinPage0 _ _ => some 0
  | .joinPage12 _ (.page1 _ _) => some 1
  | .joinPage12 _ (.page2 _ _) => some 2
  | .joinPage12 _ (.above n) => some n
  | .joinPage12 _ (.malformed n) => some n
  | .joinPage3 _ _ => some 3
  | _ => none

/-- A JOIN on a crane port whose body has a wrong length, with the page number of its first byte (R177). DESIGN CHOICE
(log 6): a page number above 3 may be malformed too, and is then answered PAGE_RANGE. -/
def malformedJoin (c : Slot) (page : Nat) : Instr :=
  if page = 0 then .joinPage0 c .malformed
  else if page = 3 then .joinPage3 c .malformed
  else .joinPage12 c (.malformed page)

/-- The command of a request whose body no rule of it reads (R177). PHASE and STATUS stand in one of their rows (log 6). -/
def malformedOn (p : PortId) (t : RequestType) (page : Nat) : Option Instr :=
  match p, t with
  | .crane c, .join => some (malformedJoin c page)
  | .crane c, .position => some (.position c .malformed)
  | .crane c, .travel => some (.travel c .malformed)
  | .crane c, .travelCancel => some (.travelCancel c .malformed)
  | .crane c, .take => some (.take c .malformed)
  | .crane c, .phase => some (.phaseLocked c .malformed)
  | .crane c, .abandon => some (.abandon c .malformed)
  | .crane c, .setBack => some (.setBack c .malformed)
  | .crane c, .leave => some (.leave c .malformed)
  | .lane, .lanes => some (.lanes .malformed)
  | .lane, .arrive => some (.arrive .malformed)
  | .lane, .gone => some (.gone .malformed)
  | .lane, .clear => some (.clear .malformed)
  | .gang, .signOn => some (.signOn .malformed)
  | .gang, .signOff => some (.signOff .malformed)
  | .gang, .enter => some (.enter .malformed)
  | .gang, .units => some (.units .malformed)
  | .gang, .check => some (.check .malformed)
  | .gang, .exit => some (.exit .malformed)
  | .plan, .setup => some (.setup .malformed)
  | .plan, .operate => some (.operate .malformed)
  | .plan, .config => some (.config .malformed)
  | .plan, .overrideGeometry => some (.overrideGeometry .malformed)
  | .plan, .openBerth => some (.openBerth .malformed)
  | .plan, .clearBerth => some (.clearBerth .malformed)
  | .plan, .sectionSet => some (.sectionSet .malformed)
  | .plan, .append => some (.append .malformed)
  | .plan, .insert => some (.insert .malformed)
  | .plan, .delete => some (.delete .malformed)
  | .plan, .replace => some (.replace .malformed)
  | .plan, .readQueue => some (.readQueue .malformed)
  | .plan, .readNext => some (.readNext .malformed)
  | .plan, .logRead => some (.logRead .malformed)
  | .plan, .logFree => some (.logFree .malformed)
  | .plan, .alertRead => some (.alertRead .malformed)
  | .plan, .alertAck => some (.alertAck .malformed)
  | .plan, .recall => some (.recall .malformed)
  | .plan, .forceRelease => some (.forceRelease .malformed)
  | .plan, .status => some (.statusSpan .malformed)
  | _, _ => none

/-- The mask of a LANES body: one byte (R180). -/
def readMask : List Byte → Body Mask
  | [b] => .fields b
  | _ => .malformed

/-- The mask of an ALERT_ACK body: two bytes (Table 11.4). -/
def readAlertMask : List Byte → Body (BitVec 16)
  | [a, b] => .fields (a ++ b)
  | _ => .malformed

/-- The command of a request whose body the spec lays out: a layout of section 11.6, a request that carries nothing (R177),
or one field whose width R180 gives (log 4). -/
def laidOut (p : PortId) (t : RequestType) (body : List Byte) : Option Instr :=
  match p, t with
  | .crane c, .position => some (.position c (readPosition body))
  | .crane c, .travel => some (.travel c (readField body))
  | .crane c, .travelCancel => some (.travelCancel c (readNothing body))
  | .crane c, .take => some (.take c (readNothing body))
  | .crane c, .leave => some (.leave c (readNothing body))
  | .crane c, .abandon => some (.abandon c (readField body))
  | .crane c, .setBack => some (.setBack c (readField body))
  | .lane, .lanes => some (.lanes (readMask body))
  | .lane, .arrive => some (.arrive (readArrive body))
  | .plan, .setup => some (.setup (readNothing body))
  | .plan, .operate => some (.operate (readNothing body))
  | .plan, .clearBerth => some (.clearBerth (readNothing body))
  | .plan, .delete => some (.delete (readField body))
  | .plan, .readNext => some (.readNext (readNothing body))
  | .plan, .alertRead => some (.alertRead (readNothing body))
  | .plan, .alertAck => some (.alertAck (readAlertMask body))
  | .plan, .recall => some (.recall (readField body))
  | _, _ => none

/-- A command that the body of this request may be read as: of this port and type, with fields its link can carry, and for a
JOIN with the page number of the first body byte. -/
def admissible (p : PortId) (t : RequestType) (page : Nat) (i : Instr) : Bool :=
  telegramOf i == some (p, t) && i.wellFormed && (t != .join || joinPage i == some page)

/-- The command of a valid telegram: as the spec lays its body out, or else as the part's own layout reads it (free, log 4),
or else malformed. None where the type is not one the master sends on the port (R176). -/
def commandOf (p : PortId) (ty : Byte) (body : List Byte) : Option Instr :=
  match requestOf p ty with
  | none => none
  | some t =>
    match laidOut p t body with
    | some i => some i
    | none =>
      match Config.bodyLayout p ty body with
      | some i =>
        if admissible p t (body.headD 0#8).toNat i then some i else malformedOn p t (body.headD 0#8).toNat
      | none => malformedOn p t (body.headD 0#8).toNat

/-- Take a telegram command; the other commands are no telegram and change nothing here. -/
def takeTelegram (i : Instr) (s : State) : Host.Outcome State Fault Refusal :=
  match i with
  | .joinPage0 c b => execJoinPage0 c b s
  | .joinPage12 c b => execJoinPage12 c b s
  | .joinPage3 c b => execJoinPage3 c b s
  | .position c b => execPosition c b s
  | .travel c b => execTravel c b s
  | .travelCancel c b => execTravelCancel c b s
  | .leave c b => execLeave c b s
  | .take c b => execTake c b s
  | .phaseLocked c b => execPhaseLocked c b s
  | .phaseAloft c b => execPhaseAloft c b s
  | .phaseLanded c b => execPhaseLanded c b s
  | .abandon c b => execAbandon c b s
  | .setBack c b => execSetBack c b s
  | .lanes b => execLanes b s
  | .arrive b => execArrive b s
  | .gone b => execGone b s
  | .clear b => execClear b s
  | .signOn b => execSignOn b s
  | .signOff b => execSignOff b s
  | .enter b => execEnter b s
  | .units b => execUnits b s
  | .check b => execCheck b s
  | .exit b => execExit b s
  | .setup b => execSetup b s
  | .operate b => execOperate b s
  | .config b => execConfig b s
  | .overrideGeometry b => execOverrideGeometry b s
  | .openBerth b => execOpenBerth b s
  | .clearBerth b => execClearBerth b s
  | .sectionSet b => execSectionSet b s
  | .append b => execAppend b s
  | .insert b => execInsert b s
  | .delete b => execDelete b s
  | .replace b => execReplace b s
  | .readQueue b => execReadQueue b s
  | .readNext b => execReadNext b s
  | .logRead b => execLogRead b s
  | .logFree b => execLogFree b s
  | .alertRead b => execAlertRead b s
  | .alertAck b => execAlertAck b s
  | .recall b => execRecall b s
  | .forceRelease b => execForceRelease b s
  | .statusSpan b => execStatusSpan b s
  | .statusSections b => execStatusSections b s
  | .statusStands b => execStatusStands b s
  | .statusGangs b => execStatusGangs b s
  | .statusMode b => execStatusMode b s
  | .powerOn _ _ => .next s
  | .joinTimerExpiry _ => .next s
  | .reportLimitExpiry _ => .next s
  | .callDeadlineExpiry _ _ => .next s
  | .checkInTimerExpiry _ => .next s
  | .sensorLineChange _ _ => .next s
  | .quayHaltChange _ => .next s
  | .linkSilenceExpiry _ => .next s
  | .interByteGapExpiry _ => .next s
  | .quayClockAdvance => .next s
  | .byteArrival _ _ _ => .next s
  | .telegramSent _ => .next s

/-- The port, the type byte and the body a master sends for a command whose body the spec lays out (section 11.6, R177,
R180, log 4). -/
def spelled : Instr → Option (PortId × Byte × List Byte)
  | .position c (.fields r) => some (.crane c, RequestType.position.code, positionBody r)
  | .travel c (.fields t) => some (.crane c, RequestType.travel.code, two t)
  | .travelCancel c (.fields _) => some (.crane c, RequestType.travelCancel.code, [0#8])
  | .take c (.fields _) => some (.crane c, RequestType.take.code, [0#8])
  | .leave c (.fields _) => some (.crane c, RequestType.leave.code, [0#8])
  | .abandon c (.fields t) => some (.crane c, RequestType.abandon.code, two t)
  | .setBack c (.fields t) => some (.crane c, RequestType.setBack.code, two t)
  | .lanes (.fields m) => some (.lane, RequestType.lanes.code, [m])
  | .arrive (.fields r) => some (.lane, RequestType.arrive.code, arriveBody r)
  | .setup (.fields _) => some (.plan, RequestType.setup.code, [0#8])
  | .operate (.fields _) => some (.plan, RequestType.operate.code, [0#8])
  | .clearBerth (.fields _) => some (.plan, RequestType.clearBerth.code, [0#8])
  | .delete (.fields t) => some (.plan, RequestType.delete.code, two t)
  | .readNext (.fields _) => some (.plan, RequestType.readNext.code, [0#8])
  | .alertRead (.fields _) => some (.plan, RequestType.alertRead.code, [0#8])
  | .alertAck (.fields m) => some (.plan, RequestType.alertAck.code, [m.extractLsb' 8 8, m.extractLsb' 0 8])
  | .recall (.fields t) => some (.plan, RequestType.recall.code, two t)
  | _ => none

/-! ### Bytes and gaps (R176) -/

/-- Set the receive state of a port. -/
def State.setReceiver (s : State) (p : PortId) (r : Receiver) : State := s.setPort p { s.port p with rx := r }

/-- BYTE_ARRIVAL: a stop-bit error discards the frame; a byte that completes a frame of good CRC and known type hands the
telegram to its block, of an unknown type discards it in silence; any other byte moves the receive state (R176). -/
def execByteArrival (p : PortId) (byte : Byte) (stopError : Bool) (s : State) : Host.Outcome State Fault Refusal :=
  if stopError then .next (s.setReceiver p .hunt)
  else
    match ((s.port p).rx.take byte).2 with
    | none => .next (s.setReceiver p ((s.port p).rx.take byte).1)
    | some (ty, body) =>
      match commandOf p ty body with
      | some i => takeTelegram i (s.setReceiver p .hunt)
      | none => .next (s.setReceiver p .hunt)

/-- INTER_BYTE_GAP_EXPIRY: the frame is discarded and the receiver returns to HUNT (R176). -/
def execInterByteGapExpiry (p : PortId) (s : State) : Host.Outcome State Fault Refusal := .next (s.setReceiver p .hunt)

/-! ### Link silence and sending (R178, R179) -/

/-- The owner of a port takes the loss of its link: the Crane Registry takes a crane that is not DOWN to DOWN (R31); the
lane and gang ports and the plan port change no state of their owners (R156, R96, R178). -/
def State.takeLinkLoss (s : State) (p : PortId) : State :=
  match p with
  | .crane c => if s.fitted c && (s.crane c).slotState != .down then s.craneLost c else s
  | .lane => s
  | .gang => s
  | .plan => s

/-- A port goes link-down: its timer stops and the telegrams still waiting are dropped (R178, R179). -/
def State.linkDown (s : State) (p : PortId) : State :=
  s.setPort p { s.port p with linkUp := false, silence := none, outbox := [] }

/-- LINK_SILENCE_EXPIRY (R178); a stopped timer does not run out (log 7). -/
def execLinkSilenceExpiry (p : PortId) (s : State) : Host.Outcome State Fault Refusal :=
  .next (if (s.port p).silence.isSome then (s.linkDown p).takeLinkLoss p else s)

/-- TELEGRAM_SENT: the oldest telegram waiting on a link-up port has been sent whole (R179). -/
def execTelegramSent (p : PortId) (s : State) : Host.Outcome State Fault Refusal :=
  .next (if (s.port p).linkUp then s.setPort p { s.port p with outbox := (s.port p).outbox.tail } else s)

/-! ### The Quay Clock (R4) -/

/-- QUAY_CLOCK_ADVANCE (R4). -/
def execQuayClockAdvance (s : State) : Host.Outcome State Fault Refusal := .next { s with clock := s.clock + 1#32 }

end Sys2Proof.Machine
end

