-- ==== Sys2Proof/Machine/Dispatch.lean ====
section
/-! DEFINITION. The one match from commands to their meanings. -/

namespace Sys2Proof.Machine

def exec (i : Instr) (s : State) : Host.Outcome State Fault Refusal :=
  match i with
  | .powerOn haltLine sensors => Sys2Proof.Machine.execPowerOn haltLine sensors s
  | .joinPage0 c b => Sys2Proof.Machine.execJoinPage0 c b s
  | .joinPage12 c b => Sys2Proof.Machine.execJoinPage12 c b s
  | .joinPage3 c b => Sys2Proof.Machine.execJoinPage3 c b s
  | .joinTimerExpiry c => Sys2Proof.Machine.execJoinTimerExpiry c s
  | .position c b => Sys2Proof.Machine.execPosition c b s
  | .reportLimitExpiry c => Sys2Proof.Machine.execReportLimitExpiry c s
  | .travel c b => Sys2Proof.Machine.execTravel c b s
  | .travelCancel c b => Sys2Proof.Machine.execTravelCancel c b s
  | .leave c b => Sys2Proof.Machine.execLeave c b s
  | .take c b => Sys2Proof.Machine.execTake c b s
  | .phaseLocked c b => Sys2Proof.Machine.execPhaseLocked c b s
  | .phaseAloft c b => Sys2Proof.Machine.execPhaseAloft c b s
  | .phaseLanded c b => Sys2Proof.Machine.execPhaseLanded c b s
  | .abandon c b => Sys2Proof.Machine.execAbandon c b s
  | .setBack c b => Sys2Proof.Machine.execSetBack c b s
  | .lanes b => Sys2Proof.Machine.execLanes b s
  | .arrive b => Sys2Proof.Machine.execArrive b s
  | .gone b => Sys2Proof.Machine.execGone b s
  | .clear b => Sys2Proof.Machine.execClear b s
  | .callDeadlineExpiry c l => Sys2Proof.Machine.execCallDeadlineExpiry c l s
  | .signOn b => Sys2Proof.Machine.execSignOn b s
  | .signOff b => Sys2Proof.Machine.execSignOff b s
  | .enter b => Sys2Proof.Machine.execEnter b s
  | .units b => Sys2Proof.Machine.execUnits b s
  | .check b => Sys2Proof.Machine.execCheck b s
  | .exit b => Sys2Proof.Machine.execExit b s
  | .checkInTimerExpiry g => Sys2Proof.Machine.execCheckInTimerExpiry g s
  | .setup b => Sys2Proof.Machine.execSetup b s
  | .operate b => Sys2Proof.Machine.execOperate b s
  | .config b => Sys2Proof.Machine.execConfig b s
  | .overrideGeometry b => Sys2Proof.Machine.execOverrideGeometry b s
  | .openBerth b => Sys2Proof.Machine.execOpenBerth b s
  | .clearBerth b => Sys2Proof.Machine.execClearBerth b s
  | .sectionSet b => Sys2Proof.Machine.execSectionSet b s
  | .append b => Sys2Proof.Machine.execAppend b s
  | .insert b => Sys2Proof.Machine.execInsert b s
  | .delete b => Sys2Proof.Machine.execDelete b s
  | .replace b => Sys2Proof.Machine.execReplace b s
  | .readQueue b => Sys2Proof.Machine.execReadQueue b s
  | .readNext b => Sys2Proof.Machine.execReadNext b s
  | .logRead b => Sys2Proof.Machine.execLogRead b s
  | .logFree b => Sys2Proof.Machine.execLogFree b s
  | .alertRead b => Sys2Proof.Machine.execAlertRead b s
  | .alertAck b => Sys2Proof.Machine.execAlertAck b s
  | .recall b => Sys2Proof.Machine.execRecall b s
  | .forceRelease b => Sys2Proof.Machine.execForceRelease b s
  | .statusSpan b => Sys2Proof.Machine.execStatusSpan b s
  | .statusSections b => Sys2Proof.Machine.execStatusSections b s
  | .statusStands b => Sys2Proof.Machine.execStatusStands b s
  | .statusGangs b => Sys2Proof.Machine.execStatusGangs b s
  | .statusMode b => Sys2Proof.Machine.execStatusMode b s
  | .sensorLineChange k level => Sys2Proof.Machine.execSensorLineChange k level s
  | .quayHaltChange level => Sys2Proof.Machine.execQuayHaltChange level s
  | .linkSilenceExpiry p => Sys2Proof.Machine.execLinkSilenceExpiry p s
  | .interByteGapExpiry p => Sys2Proof.Machine.execInterByteGapExpiry p s
  | .quayClockAdvance => Sys2Proof.Machine.execQuayClockAdvance s
  | .byteArrival p byte stopError => Sys2Proof.Machine.execByteArrival p byte stopError s
  | .telegramSent p => Sys2Proof.Machine.execTelegramSent p s

end Sys2Proof.Machine
end

