-- ==== Sys2Proof/Safety.lean ====
section
/-! DEFINITION. What a safe state is, block by block, and the words that statements use: a valid telegram heard on a port,
a pair of neighbours, the requirement of a group. -/

namespace Sys2Proof.Machine

/-! ### Words of statements -/

/-- A valid telegram heard on a port: the receiver in HUNT, the link up, the silence timer started afresh (R176, R178). On
a link-down lane port the resync follows. -/
def State.heard (s : State) (p : PortId) : State :=
  s.setPort p { s.port p with rx := .hunt, linkUp := true, silence := some s.config.linkSilence }

/-- The part notices: telegrams that answer no request (R179). -/
def Telegram.isNotice : Telegram → Bool
  | .standReady _ _ _ | .standLost _ _ _ | .call _ | .cancel _ _ _ | .depart _ _ _ _ | .grant _ _
  | .overdue _ _ _ _ _ => true
  | .joinAck _ _ | .window _ | .travelGrant _ _ _ _ _ | .move _ | .phaseAck _ | .refuse _ _ _ | .laneAck _
  | .gangAck _ | .planAck _ | .readReply _ _ => false

/-- Commands taken one after another, until one of them gives no next state. -/
def runAll : List Instr → State → Host.Outcome State Fault Refusal
  | [], s => .next s
  | i :: rest, s =>
    match exec i s with
    | .next t => runAll rest t
    | .fault f => .fault f
    | .refused r => .refused r

/-- A group of a crane is in flight (R116). -/
def State.lifting (s : State) (c : Slot) : Prop := ∃ f, s.flight c = some f

/-- `d` is the nearest fitted slot of higher number than `c` (R7). -/
def State.nearestEast (s : State) (c d : Slot) : Prop :=
  c < d ∧ s.fitted d = true ∧ ∀ x, c < x → x < d → s.fitted x = false

/-- `b` is the nearest fitted slot of lower number than `c` (R7). -/
def State.nearestWest (s : State) (c b : Slot) : Prop :=
  b < c ∧ s.fitted b = true ∧ ∀ x, b < x → x < c → s.fitted x = false

/-! ### The span: windows, watches, permits and goals (chapter 3) -/

/-- Every span record and watch state is what a re-evaluation of the present inputs gives (R41): windows, empty marks,
permit lines and watch states of fitted slots; nothing held for an unfitted slot or for slots that form no pair (R6). -/
structure SpanSettled (s : State) : Prop where
  window : ∀ c, s.fitted c = true → (s.spanOf c).window = some (s.bounds c)
  east : ∀ c, s.fitted c = true → (s.spanOf c).eastPermit = s.eastCondition c (s.bounds c)
  west : ∀ c, s.fitted c = true → (s.spanOf c).westPermit = s.westCondition c (s.bounds c)
  mark : ∀ c, s.fitted c = true → (s.spanOf c).emptyMark = s.emptyMarkNow c
  unfitted : ∀ c, s.fitted c = false → s.spanOf c = SpanRecord.reset
  pair : ∀ w e, s.config.pairEast w = some e → s.watch w = some (watchAfter s.config (s.watch w) (s.gap w e))
  noPair : ∀ w, s.config.pairEast w = none → s.watch w = none

/-- What an asserted permit line means (R47). -/
structure PermitsSafe (s : State) : Prop where
  travelling : ∀ c, ((s.spanOf c).eastPermit || (s.spanOf c).westPermit) = true →
    s.fitted c = true ∧ s.mode = .operating ∧ s.halted = false ∧ (s.crane c).slotState = .active ∧ s.flight c = none
  untripped : ∀ c, ((s.spanOf c).eastPermit = true → s.trippedEast c = false) ∧
    ((s.spanOf c).westPermit = true → s.trippedWest c = false)

/-- A crane and the crane east of it can both brake from the speeds they last reported and stay the minimum clearance apart;
an uncertain neighbour is taken at its maximum gantry speed (R35, R37, R38). `w` is the west crane, `e` the east one. -/
def State.eastwardRoom (s : State) (w e : Slot) : Prop :=
  (s.positionUsed w : Int) + stoppingDistance (s.geometry w) (eastSpeed (s.crane w).lastVelocity) +
      (s.geometry w).rail.eastExtent + s.config.clearance ≤
    (s.positionUsed e : Int) - (s.geometry e).rail.westExtent -
      (if s.uncertain e then stoppingDistance (s.geometry e) (s.geometry e).rail.maxSpeed
        else stoppingDistance (s.geometry e) (westSpeed (s.crane e).lastVelocity))

/-- The mirror of `eastwardRoom`: the east crane of a pair moves west. -/
def State.westwardRoom (s : State) (w e : Slot) : Prop :=
  (s.positionUsed w : Int) + (s.geometry w).rail.eastExtent +
      (if s.uncertain w then stoppingDistance (s.geometry w) (s.geometry w).rail.maxSpeed
        else stoppingDistance (s.geometry w) (eastSpeed (s.crane w).lastVelocity)) + s.config.clearance ≤
    (s.positionUsed e : Int) - stoppingDistance (s.geometry e) (westSpeed (s.crane e).lastVelocity) -
      (s.geometry e).rail.westExtent

/-- Only an ACTIVE crane of a part that is OPERATING holds a goal (R36, R46, R62), and two neighbours placed at their goals
stand at least the minimum clearance apart (R44). -/
structure GoalsApart (s : State) : Prop where
  held : ∀ c g, (s.spanOf c).goal = some g →
    s.fitted c = true ∧ s.mode = .operating ∧ (s.crane c).slotState = .active
  apart : ∀ w e gw ge, s.config.pairEast w = some e → (s.spanOf w).goal = some gw → (s.spanOf e).goal = some ge →
    (gw : Int) + (s.geometry w).rail.eastExtent + s.config.clearance ≤ (ge : Int) - (s.geometry e).rail.westExtent

/-! ### Sections, gangs and claims (chapters 4 and 5) -/

/-- A gang is ABOARD a section. -/
def Gang.aboardAt (g : Gang) (i : Nat) : Prop := ∃ head task last overdue, g = .aboard head i task last overdue

/-- A gang is WAITING at a section. -/
def Gang.waitingAt (g : Gang) (i : Nat) : Prop := ∃ head task, g = .waiting head i task

/-- The Section Table agrees with the vessel, the groups in flight and the Gang Roster: claims are exactly the footprints in
flight (R71), section gangs and waiting lists are exactly the roster's (R75, R81), no claim lies within the exclusion radius
of a gang aboard (R73), and in SETUP there is neither (R80). -/
structure SectionsAgree (s : State) : Prop where
  noVessel : s.vessel = none → s.sections = [] ∧ (∀ c, s.queue c = []) ∧ ∀ c, s.flight c = none
  count : ∀ v, s.vessel = some v → s.sections.length = v.count
  claims : ∀ i r c, s.section? i = some r →
    (r.claim = some c ↔ ∃ f, s.flight c = some f ∧ i ∈ f.footprint.sections)
  aboard : ∀ i r g, s.section? i = some r → (r.gang = some g ↔ (s.gang g).aboardAt i)
  waiting : ∀ i r g, s.section? i = some r → (g ∈ r.waiting ↔ (s.gang g).waitingAt i)
  once : ∀ i r, s.section? i = some r → r.waiting.Nodup
  placed : ∀ g i, (s.gang g).aboardAt i ∨ (s.gang g).waitingAt i → ∃ r, s.section? i = some r
  excluded : ∀ i j r q, s.section? i = some r → s.section? j = some q → r.gang ≠ none → q.claim ≠ none →
    s.config.exclusionRadius < distance i j
  setup : s.mode = .setup → (∀ c, s.flight c = none) ∧ ∀ g, (s.gang g).onVessel = false

/-! ### Queues and groups in flight (chapters 6 and 7) -/

/-- Every tag of the pool, queue by queue. -/
def State.poolTags (s : State) : List Nat := all8.flatMap fun c => (s.queue c).map fun m => m.tag

/-- The records of a queue that belong to its crane's group in flight stand together in it, ASSIGNED, in the group's order,
and every other record is QUEUED (R104, R111, R116). -/
def standsInQueue (q : List MoveRecord) (f : Flight) : Prop :=
  ∃ before records behind, q = before ++ records ++ behind ∧ (records.map fun m => m.tag) = f.tags ∧
    (∀ m ∈ records, m.state = .assigned ∧ m.job = f.job) ∧ ∀ m ∈ before ++ behind, m.state = .queued

/-- The pool and the queues keep their bounds, no two records share a tag (R100), and exactly the records of the groups in
flight are ASSIGNED (R98, R116). -/
structure StoreAgrees (s : State) : Prop where
  room : (∀ c, (s.queue c).length ≤ 160) ∧ s.poolCount ≤ 640
  tags : s.poolTags.Nodup ∧ ∀ t ∈ s.poolTags, 1 ≤ t ∧ t ≤ 65535
  idle : ∀ c, s.flight c = none → ∀ m ∈ s.queue c, m.state = .queued
  lifting : ∀ c f, s.flight c = some f → standsInQueue (s.queue c) f

/-- The number of moves in flight. -/
def State.movesInFlight (s : State) : Nat :=
  (all8.map fun c => match s.flight c with
    | some f => f.tags.length
    | none => 0).sum

/-- The log and the moves in flight together never exceed 207 records (R159), and the backlog state is set exactly at 192
or more (R163). -/
structure LogBounded (s : State) : Prop where
  bound : s.log.length + s.movesInFlight ≤ 207
  backlog : s.backlog = decide (192 ≤ s.log.length)

/-! ### Stands and trucks (chapter 8) -/

/-- The truck state, lane and stand of a group in flight agree (Table 7.2, R139). -/
def State.truckAgrees (s : State) (c : Slot) (f : Flight) : Prop :=
  match f.truck with
  | .notNeeded => f.job.isHatch = true ∧ f.lane = none
  | .pending | .failed => f.job.isHatch = false ∧ f.lane = none
  | .called => f.job.isHatch = false ∧
      ∃ l k due deadline held, f.lane = some l ∧ s.stand c l = .called k due deadline held
  | .present => f.job.isHatch = false ∧ ∃ l k id, f.lane = some l ∧ s.stand c l = .occupied k id
  | .departed => f.job.isLoad = true

/-- A stand in CALLED or OCCUPIED serves the group in flight of its own crane whose tags it holds, and the group's truck
agrees with it (R139, Table 7.2); a LOAD aloft has seen its truck depart, and no other group has (R128). The next call number
is one of 1 to 65535 (R146). -/
structure StandsAgree (s : State) : Prop where
  called : ∀ c l k due deadline held, s.stand c l = .called k due deadline held →
    ∃ f, s.flight c = some f ∧ f.truck = .called ∧ f.lane = some l ∧ k.tags = f.tags
  occupied : ∀ c l k id, s.stand c l = .occupied k id →
    ∃ f, s.flight c = some f ∧ f.truck = .present ∧ f.lane = some l ∧ f.truckId = some id ∧ k.tags = f.tags
  trucks : ∀ c f, s.flight c = some f → s.truckAgrees c f
  departed : ∀ c f, s.flight c = some f → (f.truck = .departed ↔ f.job.isLoad = true ∧ f.phase = .aloft)
  counter : 1 ≤ s.callCounter ∧ s.callCounter ≤ 65535

/-! ### Lines, ports, timers and alerts (chapters 2, 3, 9 and 11) -/

/-- A slot state that holds a join in progress. -/
def SlotState.isJoining : SlotState → Bool
  | .joining _ => true
  | .down | .stale | .active => false

/-- Each block's own fields agree: ATTN with the flags and the enable mask (R167), the halt with its line (R58), a trip latch
with a line that serves a pair in an edge mode (R53), the silence timer with the link (R178) and an empty outbox on a link
that is down (R179), a slot's timers with its state (R24, R29), the reset record of an unfitted slot (R6), and the drift mark
with a group in flight (R28). -/
structure UnitsAgree (s : State) : Prop where
  attn : s.attn = attnLevel s.alerts s.config.alertMask
  halt : s.halted = (s.haltLine == s.config.haltPolarity)
  latch : ∀ k, entry s.latches k = true → s.config.serves k = true ∧
    (entry s.config.sensorModes k = .rise ∨ entry s.config.sensorModes k = .fall ∨
      entry s.config.sensorModes k = .both)
  silence : ∀ p, (s.port p).silence.isSome = (s.port p).linkUp
  outbox : ∀ p, (s.port p).linkUp = false → (s.port p).outbox = []
  joinTimer : ∀ c, (s.crane c).joinTimer.isSome = (s.crane c).slotState.isJoining
  reportTimer : ∀ c, (s.crane c).reportTimer.isSome = ((s.crane c).slotState == .active)
  unfitted : ∀ c, s.fitted c = false → s.crane c = CraneRecord.reset
  drift : ∀ c, (s.crane c).driftMark = true → s.lifting c

/-- Every item of the configuration within its range (Tables 10.2 and 10.3); the items of a fixed set of names and the two
masks are so by their types. -/
structure ConfigInTables (c : ConfigSet) : Prop where
  park : ∀ k, entry c.park k ≤ 65535
  limits : c.westLimit ≤ 65535 ∧ c.eastLimit ≤ 65535
  clearance : 100 ≤ c.clearance ∧ c.clearance ≤ 2000
  startMargin : c.startMargin ≤ 500
  nearDistance : 500 ≤ c.nearDistance ∧ c.nearDistance ≤ 5000
  hysteresis : 50 ≤ c.hysteresis ∧ c.hysteresis ≤ 1000
  creepSpeed : 5 ≤ c.creepSpeed ∧ c.creepSpeed ≤ 60
  bayTolerance : 5 ≤ c.bayTolerance ∧ c.bayTolerance ≤ 100
  arriveTolerance : 5 ≤ c.arriveTolerance ∧ c.arriveTolerance ≤ 100
  exclusionRadius : c.exclusionRadius ≤ 2
  reportLimit : 50 ≤ c.reportLimit ∧ c.reportLimit ≤ 1000
  linkSilence : 200 ≤ c.linkSilence ∧ c.linkSilence ≤ 5000
  joinTimer : c.joinTimer = 50 ∨ c.joinTimer = 200 ∨ c.joinTimer = 500 ∨ c.joinTimer = 1000
  grace : 100 ≤ c.grace ∧ c.grace ≤ 3000
  maxRecalls : c.maxRecalls ≤ 7
  checkInterval : 600 ≤ c.checkInterval ∧ c.checkInterval ≤ 18000
  lookahead : 1 ≤ c.lookahead ∧ c.lookahead ≤ 8

/-- What the part has stored of what it was told lies in the ranges it was checked against: overrides (R173), declared
geometries and the pages of a join in progress (R22), last velocities (R26), the configuration (R171). -/
structure ValuesInRange (s : State) : Prop where
  overrides : ∀ c g, s.override c = some g → geometryInRange g = true
  declared : ∀ c g, (s.crane c).declared = some g → geometryInRange g = true
  firstPage : ∀ c one, (s.crane c).slotState = .joining (.awaitPage2 one) → page1InRange one = true
  bothPages : ∀ c one two, (s.crane c).slotState = .joining (.awaitPage3 one two) →
    page1InRange one = true ∧ page2InRange two = true
  velocity : ∀ c, -255 ≤ (s.crane c).lastVelocity ∧ (s.crane c).lastVelocity ≤ 255
  config : ConfigInTables s.config

end Sys2Proof.Machine
end

