-- ==== Sys2Proof/Certificates/Slice0/Obligations.lean ====
section
/-! DEFINITION. The statements about the QW824. Each is about every state and operand that meets its hypotheses; an
equation of next states gives the command's frame: whatever the right side does not name is as it was. `s.heard p` is the
state after the link has heard a valid telegram on port `p` (R176, R178). -/

open Sys2Proof Sys2Proof.Machine

/-! ### The queue of commands and the whole part -/

/-- A step takes the command at the front of the queue and runs it with the queue's rest. -/
def Obligations.StepRunsTheFrontCommand : Prop :=
  ∀ (c : Instr) (rest : List Instr) (s : State),
    step { s with pending := c :: rest } = exec c { s with pending := rest }

/-- Every command is taken: exec answers a next state whatever the command and the state, and leaves the queue alone;
with nothing waiting a step changes nothing (the model's choice, log 1). -/
def Obligations.EveryCommandIsTaken : Prop :=
  (∀ (i : Instr) (s : State), ∃ t, exec i s = .next t ∧ t.pending = s.pending) ∧
    ∀ s : State, s.pending = [] → step s = .next s

/-- POWER_ON sets every field of the state: the configuration of Tables 10.2 and 10.3, every record empty, every link
down. The halt and its alert follow the QUAY-HALT line, low being active under the reset polarity (R168, R58). The
levels of the lines are the command's operands (the model's choice, log 10). -/
def Obligations.PowerOnSetsEveryField : Prop :=
  ∀ (h : Level) (lines : Vector Level 7) (s : State), ∃ t, exec (.powerOn h lines) s = .next t ∧
    t.pending = s.pending ∧ t.clock = 0#32 ∧ t.mode = .setup ∧
    t.config = {
      fitted := 0#8, park := Vector.replicate 8 0, westLimit := 0, eastLimit := 65535, clearance := 500,
      startMargin := 100, nearDistance := 1500, hysteresis := 300, creepSpeed := 20, bayTolerance := 30,
      arriveTolerance := 20, exclusionRadius := 1, reportLimit := 300, linkSilence := 1000, joinTimer := 200,
      sensorModes := Vector.replicate 7 .disabled, haltPolarity := .low, permitDrive := .openDrain, grace := 300,
      maxRecalls := 2, checkInterval := 6000, takeModes := Vector.replicate 8 .inOrder, lookahead := 4,
      alertMask := 0xFFF#12 } ∧
    (∀ c, t.override c = none ∧
      t.crane c = { slotState := .down, declared := none, lastPosition := none, lastVelocity := 0,
                    lastReportTime := none, driftMark := false, joinTimer := none, reportTimer := none } ∧
      t.spanOf c = { window := none, goal := none, eastPermit := false, westPermit := false, emptyMark := false } ∧
      t.watch c = none ∧ t.gang c = .off ∧ t.queue c = [] ∧ t.flight c = none ∧ t.pointer c = 7 ∧
      ∀ l, t.stand c l = .free) ∧
    t.sensorLevels = lines ∧ (∀ k, entry t.latches k = false) ∧ t.haltLine = h ∧ t.halted = decide (h = .low) ∧
    t.vessel = none ∧ t.sections = [] ∧ t.cursor = { slot := 0, index := 0 } ∧ t.laneMask = 0#8 ∧
    t.callCounter = 1 ∧ t.log = [] ∧ t.backlog = false ∧
    (∀ a, t.alert a = if a = .quayHalt ∧ h = .low then some (.halt 0#32) else none) ∧ t.attn = decide (h = .low) ∧
    ∀ p, t.port p = { rx := .hunt, linkUp := false, silence := none, outbox := [] }

/-- A part just powered on, whatever its input lines, meets every rule that the statements below say each step keeps.
The levels of the lines at `State.reset` are the model's choice (log 10). -/
def Obligations.PowerOnMeetsTheRules : Prop :=
  ∀ (h : Level) (lines : Vector Level 7),
    SpanSettled (State.poweredOn h lines) ∧ GoalsApart (State.poweredOn h lines) ∧
    SectionsAgree (State.poweredOn h lines) ∧ StoreAgrees (State.poweredOn h lines) ∧
    LogBounded (State.poweredOn h lines) ∧ StandsAgree (State.poweredOn h lines) ∧
    UnitsAgree (State.poweredOn h lines) ∧ ValuesInRange (State.poweredOn h lines) ∧
    State.reset = State.poweredOn .low (Vector.replicate 7 .low)

/-! ### What every step keeps -/

/-- Whatever the command, every window, empty mark, permit line and watch state is afterwards what the inputs then
give: no event that changes an input of a crane leaves the crane as it was evaluated before. -/
def Obligations.StepKeepsSpanSettled : Prop :=
  ∀ s t : State, SpanSettled s → step s = .next t → SpanSettled t

/-- Neighbours' travel goals stay at least the minimum clearance apart, body to body. -/
def Obligations.StepKeepsGoalsApart : Prop :=
  ∀ s t : State, SpanSettled s → GoalsApart s → step s = .next t → GoalsApart t

/-- After every step a permit line is asserted only for an ACTIVE crane with no lift, in OPERATING, without halt or
trip on that side, and with room for both neighbours to brake. -/
def Obligations.PermitsAreSafe : Prop :=
  ∀ s t : State, SpanSettled s → step s = .next t → PermitsSafe t ∧
    ∀ w e, t.config.pairEast w = some e →
      ((t.spanOf w).eastPermit = true → t.eastwardRoom w e) ∧ ((t.spanOf e).westPermit = true → t.westwardRoom w e)

/-- Claims stay exactly the footprints in flight, the Section Table and the Gang Roster agree, and no claim comes
within the exclusion radius of a gang aboard. -/
def Obligations.StepKeepsSectionsAgree : Prop :=
  ∀ s t : State, SectionsAgree s → step s = .next t → SectionsAgree t

/-- The pool and the queues keep their bounds and their distinct tags, exactly the records in flight are ASSIGNED, and
the log with the moves in flight stays within 207 records. -/
def Obligations.StepKeepsStoreAndLog : Prop :=
  ∀ s t : State, StoreAgrees s → LogBounded s → step s = .next t → StoreAgrees t ∧ LogBounded t

/-- CALLED and OCCUPIED stands always serve the group in flight of their own crane. -/
def Obligations.StepKeepsStandsAgree : Prop :=
  ∀ s t : State, StandsAgree s → step s = .next t → StandsAgree t

/-- ATTN, the halt, the latches, the timers and the ports stay as the state they depend on says; every override,
declared geometry and page of a join in progress stays within Table 2.2, every last velocity within -255..255, and
every item of the configuration within Tables 10.2 and 10.3. -/
def Obligations.StepKeepsUnitsAgree : Prop :=
  (∀ s t : State, UnitsAgree s → step s = .next t → UnitsAgree t) ∧
    ∀ s t : State, ValuesInRange s → step s = .next t → ValuesInRange t

/-! ### The span arithmetic (chapter 3) -/

/-- The stopping distance of a slot at a speed: reaction part and braking part, each the least whole number of
centimetres that is enough, under the geometry in force; 0 at rest, at most 3762 in the ranges of Table 2.2, which the
default geometry reaches at its maximum speed. Where the values stored lie in their ranges, as every step keeps them,
the geometry in force has a deceleration of 10 or more and these bounds are its own. -/
def Obligations.StoppingDistanceAddsTwoRoundedParts : Prop :=
  (∀ (s : State) (k : Slot) (v : Nat), 0 < (s.geometry k).rail.deceleration →
    ∃ reaction braking, stoppingDistance (s.geometry k) v = reaction + braking ∧
      (∀ x, reaction ≤ x ↔ v * (s.geometry k).rail.reactionTime ≤ x * 1000) ∧
      ∀ x, braking ≤ x ↔ v * v ≤ x * (2 * (s.geometry k).rail.deceleration)) ∧
  (∀ (s : State) (k : Slot), (∀ g, s.override k = some g → s.geometry k = g) ∧
    (∀ g, s.override k = none → (s.crane k).declared = some g → s.geometry k = g) ∧
    (s.override k = none → (s.crane k).declared = none → s.geometry k = defaultGeometry)) ∧
  (∀ g : Geometry, stoppingDistance g 0 = 0) ∧
  (∀ (g : Geometry) (v : Nat), v ≤ 255 → g.rail.reactionTime ≤ 2000 → 10 ≤ g.rail.deceleration →
    stoppingDistance g v ≤ 3762) ∧
  (∀ s : State, ValuesInRange s → ∀ k : Slot, 10 ≤ (s.geometry k).rail.deceleration ∧
    ∀ v, v ≤ 255 → stoppingDistance (s.geometry k) v ≤ 3762) ∧
  stoppingDistance defaultGeometry defaultGeometry.rail.maxSpeed = 3762

/-- The east bound of a window: from the east neighbour's west face with the neighbour's goal, widening and stopping
distance counted, or from the east limit for the eastmost crane. An uncertain neighbour is widened by its stopping
distance at its maximum gantry speed and has no toward speed. The west bound of a window, the mirror of the east
bound. The position used for a crane is its last position, or its park position while it has reported none. -/
def Obligations.BoundsOfAWindow : Prop :=
  (∀ (s : State) (c : Slot),
     (∀ p, (s.crane c).lastPosition = some p → s.positionUsed c = p) ∧
     ((s.crane c).lastPosition = none → s.positionUsed c = entry s.config.park c)) ∧
  (∀ (s : State) (c : Slot),
     (∀ d, s.nearestEast c d →
       s.eastBound c =
         (match (s.spanOf d).goal with
           | some g => (min (s.positionUsed d) g : Int)
           | none => s.positionUsed d) - (s.geometry d).rail.westExtent -
         (if (s.crane d).slotState = .active ∧ (s.crane d).lastPosition ≠ none then 0
           else stoppingDistance (s.geometry d) (s.geometry d).rail.maxSpeed : Nat) - s.config.clearance -
         (if (s.crane d).slotState = .active ∧ (s.crane d).lastPosition ≠ none then
             stoppingDistance (s.geometry d) (if (s.crane d).lastVelocity < 0 then (-(s.crane d).lastVelocity).toNat else 0)
           else 0 : Nat) - (s.geometry c).rail.eastExtent) ∧
     ((∀ d, c < d → s.fitted d = false) →
       s.eastBound c = (s.config.eastLimit : Int) - (s.geometry c).rail.eastExtent)) ∧
  (∀ (s : State) (c : Slot),
     (∀ b, s.nearestWest c b →
       s.westBound c =
         (match (s.spanOf b).goal with
           | some g => (max (s.positionUsed b) g : Int)
           | none => s.positionUsed b) + (s.geometry b).rail.eastExtent +
         (if (s.crane b).slotState = .active ∧ (s.crane b).lastPosition ≠ none then 0
           else stoppingDistance (s.geometry b) (s.geometry b).rail.maxSpeed : Nat) + s.config.clearance +
         (if (s.crane b).slotState = .active ∧ (s.crane b).lastPosition ≠ none then
             stoppingDistance (s.geometry b) (if 0 < (s.crane b).lastVelocity then (s.crane b).lastVelocity.toNat else 0)
           else 0 : Nat) + (s.geometry c).rail.westExtent) ∧
     ((∀ b, b < c → s.fitted b = false) →
       s.westBound c = (s.config.westLimit : Int) + (s.geometry c).rail.westExtent))

/-- The permit conditions of a crane whose window is (lo, hi), clause by clause; a re-evaluation drives the two permit
lines from them and the window it computed. At its terminals an asserted line conducts and a deasserted one is left open
in OPEN_DRAIN; in PUSH_PULL they are driven high and low. -/
def Obligations.PermitConditions : Prop :=
  (∀ (s : State) (c : Slot) (lo hi : Int) (p : Nat) (u : Int),
     (s.crane c).lastPosition = some p → (s.crane c).lastVelocity = u →
     (s.eastCondition c { lo := lo, hi := hi } = true ↔
       s.mode = .operating ∧ s.halted = false ∧ (s.crane c).slotState = .active ∧ s.flight c = none ∧
       (∀ k : LineNo, k.val = c.val → s.tripped k = false) ∧
       (p : Int) + max s.config.startMargin (stoppingDistance (s.geometry c) (max 0 u).toNat) ≤ hi ∧
       (∀ d, s.nearestEast c d → s.watch c = some .near → max 0 u ≤ s.config.creepSpeed)) ∧
     (s.westCondition c { lo := lo, hi := hi } = true ↔
       s.mode = .operating ∧ s.halted = false ∧ (s.crane c).slotState = .active ∧ s.flight c = none ∧
       (∀ k : LineNo, k.val + 1 = c.val → s.tripped k = false) ∧
       lo ≤ (p : Int) - max s.config.startMargin (stoppingDistance (s.geometry c) (max 0 (-u)).toNat) ∧
       (∀ b, s.nearestWest c b → s.watch b = some .near → max 0 (-u) ≤ s.config.creepSpeed))) ∧
  (∀ (s : State) (cs : List Slot) (c : Slot), c ∈ cs → s.fitted c = true →
     let t := s.reevaluate cs
     let window : Window := { lo := t.westBound c, hi := t.eastBound c }
     (t.spanOf c).window = some window ∧ (t.spanOf c).eastPermit = t.eastCondition c window ∧
       (t.spanOf c).westPermit = t.westCondition c window) ∧
  ∀ (s : State) (c : Slot),
    let shows : Bool → LineDrive → Prop := fun asserted drive =>
      match s.config.permitDrive with
      | .openDrain => (asserted = true → drive = .conducting) ∧ (asserted = false → drive = .leftOpen)
      | .pushPull => (asserted = true → drive = .drivenHigh) ∧ (asserted = false → drive = .drivenLow)
    shows (s.spanOf c).eastPermit (s.eastLine c) ∧ shows (s.spanOf c).westPermit (s.westLine c)

/-- When a line's pair is tripped: both slots fitted, and the latch set in an edge mode or the line at the active
level of a level mode. A gap sensor line takes a level. On a line serving a pair a change that matches an edge mode
sets the latch. Where the pair's trip begins or ends both cranes are re-evaluated, and a beginning raises SENSOR_TRIP,
and SENSOR_DISAGREE where the physical gap is at least the near distance. The halt state follows the QUAY-HALT line
and its polarity: a beginning and an end re-evaluate every fitted crane, a beginning raises QUAY_HALT. -/
def Obligations.FieldLinesAreFollowed : Prop :=
  (∀ (s : State) (k : LineNo),
     s.tripped k = true ↔ s.fitted (lineWest k) = true ∧ s.fitted (lineEast k) = true ∧
       match entry s.config.sensorModes k with
       | .disabled => False
       | .rise | .fall | .both => entry s.latches k = true
       | .high => entry s.sensorLevels k = .high
       | .low => entry s.sensorLevels k = .low) ∧
  (∀ (s : State) (k : LineNo) (level : Level),
     (entry s.sensorLevels k = level → exec (.sensorLineChange k level) s = .next s) ∧
     (entry s.sensorLevels k ≠ level → exec (.sensorLineChange k level) s =
       let edge : Bool := match entry s.config.sensorModes k with
         | .rise => decide (level = .high)
         | .fall => decide (level = .low)
         | .both => true
         | .disabled | .high | .low => false
       let now : State := { s with
         sensorLevels := put s.sensorLevels k level
         latches := if s.config.serves k && edge then put s.latches k true else s.latches }
       let followed := now.reevaluate [lineWest k, lineEast k]
       let raised := followed.raise .sensorTrip (.line k s.clock)
       let gap := s.gap (lineWest k) (lineEast k)
       .next (match s.tripped k, now.tripped k with
         | false, false | true, true => now
         | true, false => followed
         | false, true =>
           if (s.config.nearDistance : Int) ≤ gap then raised.raise .sensorDisagree (.gap k gap s.clock) else raised))) ∧
  (∀ (s : State) (level : Level),
     exec (.quayHaltChange level) s =
       let now : State := { s with haltLine := level }
       let all := all8.filter s.fitted
       .next (match s.halted, decide (level = s.config.haltPolarity) with
         | false, false | true, true => now
         | true, false => ({ now with halted := false } : State).reevaluate all
         | false, true => (({ now with halted := true } : State).reevaluate all).raise .quayHalt (.halt s.clock)))

/-- A re-evaluation of some cranes. Each fitted one of them gets its window, empty mark and permit lines from the
inputs and from the watch states after it, every pair of one of them has its watch state follow its gap with the
hysteresis, the gap being that between the bodies at the positions used (the last position, or the park position of a
crane that has reported none), and nothing else changes but an alert: WINDOW_EMPTY is raised exactly when an empty mark goes from clear
to set, with the detail of one such crane where the flag was clear (which one, among several, is open: log 11). -/
def Obligations.ReevaluationOfCranes : Prop :=
  ∀ (s t : State) (cs : List Slot), s.reevaluate cs = t →
    let used : Slot → Nat := fun c => ((s.crane c).lastPosition).getD (entry s.config.park c)
    let gap : Slot → Slot → Int := fun w e =>
      ((used e : Int) - (s.geometry e).rail.westExtent) - (used w + (s.geometry w).rail.eastExtent)
    (∀ w e, s.gap w e = gap w e) ∧
    t = { s with span := t.span, watches := t.watches, alerts := t.alerts, attn := t.attn } ∧
    (∀ c, c ∈ cs → s.fitted c = true →
      t.spanOf c = {
        window := some { lo := s.westBound c, hi := s.eastBound c }
        goal := (s.spanOf c).goal
        eastPermit := t.eastCondition c { lo := s.westBound c, hi := s.eastBound c }
        westPermit := t.westCondition c { lo := s.westBound c, hi := s.eastBound c }
        emptyMark := decide (s.mode = .operating ∧ s.eastBound c < s.westBound c ∧
          (s.crane c).slotState = .active) }) ∧
    (∀ c, c ∉ cs ∨ s.fitted c = false → t.spanOf c = s.spanOf c) ∧
    (∀ w e, s.config.pairEast w = some e → w ∈ cs ∨ e ∈ cs →
      t.watch w = some (match s.watch w with
        | some .near => if (s.config.nearDistance : Int) + s.config.hysteresis ≤ gap w e then .clear else .near
        | some .clear | none => if gap w e < s.config.nearDistance then .near else .clear)) ∧
    (∀ w, (∀ e, s.config.pairEast w = some e → w ∉ cs ∧ e ∉ cs) → t.watch w = s.watch w) ∧
    (∀ a, a ≠ .windowEmpty → t.alert a = s.alert a) ∧
    (let newly : Slot → Prop := fun c => (t.spanOf c).emptyMark = true ∧ (s.spanOf c).emptyMark = false
     ((∀ c, ¬ newly c) → t.alerts = s.alerts ∧ t.attn = s.attn) ∧
     (∀ c, newly c → s.alert .windowEmpty = none →
       (∃ d, newly d ∧ t.alert .windowEmpty = some (.crane d s.clock)) ∧
         t.attn = attnLevel t.alerts s.config.alertMask) ∧
     (∀ x, s.alert .windowEmpty = some x → t.alerts = s.alerts ∧ t.attn = s.attn))

/-- Raising an alert: a clear flag is set with the detail of the raise and ATTN is re-evaluated; a flag already set
keeps its detail and nothing changes. ATTN is asserted while some flag that is set is also in the enable mask.
ALERT_READ shows flags, details, mask and ATTN and changes nothing; the flags go out as a two-byte mask with the bit of
each alert set exactly while its flag is. ALERT_ACK clears the flags named and
re-evaluates ATTN; naming SENSOR_TRIP it also clears every trip latch, the cranes of the pairs a latch held being
re-evaluated; a mask naming anything else is refused. That the flags clear before the re-evaluation, and that
ALERT_READ is one telegram, is the model's reading (log 35, log 28). -/
def Obligations.AlertsAreRaisedReadAndAcknowledged : Prop :=
  ((∀ (s : State) (a : Alert) (x d : AlertDetail), s.alert a = some x → s.raise a d = s) ∧
   (∀ (s : State) (a : Alert) (d : AlertDetail), s.alert a = none → ∃ t, s.raise a d = t ∧
     t = { s with alerts := t.alerts, attn := t.attn } ∧ t.alert a = some d ∧
     (∀ b, b ≠ a → t.alert b = s.alert b) ∧
     (t.attn = true ↔ ∃ b, t.alert b ≠ none ∧ s.config.alertMask.getLsbD b.bit.val = true))) ∧
  (∀ (s : State) (mask : BitVec 16),
     exec (.alertRead (.fields ())) s =
       .next ((s.heard .plan).send .plan
         (.readReply (.alerts (alertFlags s.alerts) s.alerts (s.config.alertMask.setWidth 16) s.attn) none)) ∧
     (∀ i, (alertFlags s.alerts).getLsbD i = true ↔ ∃ a : Alert, a.bit.val = i ∧ s.alert a ≠ none) ∧
     (mask.toNat < 4096 → ∃ cleared : Vector (Option AlertDetail) 12,
       (∀ i : Fin 12, entry cleared i = if mask.getLsbD i.val then none else entry s.alerts i) ∧
       exec (.alertAck (.fields mask)) s =
         let now : State := { s.heard .plan with alerts := cleared, attn := attnLevel cleared s.config.alertMask }
         let held := all7.filter fun k => s.tripped k && (match entry s.config.sensorModes k with
           | .rise | .fall | .both => true
           | .disabled | .high | .low => false)
         let t := if mask.getLsbD 2 then ({ now with latches := Vector.replicate 7 false } : State).reevaluate
             (held.flatMap fun k => [lineWest k, lineEast k])
           else now
         .next (t.send .plan (.planAck (.alerts (alertFlags t.alerts))))) ∧
     (4096 ≤ mask.toNat → exec (.alertAck (.fields mask)) s =
       .next ((s.heard .plan).send .plan (.refuse .alertAck .badValue .none))))

/-! ### Enrolment and position reports (chapter 2) -/

/-- A JOIN page that follows in order with good fields is taken: page 0 in every slot state, pages 1 and 2 into the join
buffer with the join timer restarted, page 3 completing the join, the geometry in force changing unless overridden.
That a join under an override attempts no request is the model's reading (log 20). -/
def Obligations.JoinPagesAreTaken : Prop :=
  ∀ (s : State) (c : Slot), s.fitted c = true →
    exec (.joinPage0 c (.fields { slot := c.val, revision := 1, follow := 3, more := true })) s =
      .next (((((s.heard (.crane c)).setCrane c { s.crane c with
        slotState := .joining .awaitPage1, joinTimer := some s.config.joinTimer, reportTimer := none }).setSpan c
          { s.spanOf c with goal := none }).reevaluate (s.concern c)).send (.crane c) (.joinAck 0 .ok)) ∧
    (∀ one : Page1, (s.crane c).slotState = .joining .awaitPage1 →
      300 ≤ one.westExtent → one.westExtent ≤ 2500 → 300 ≤ one.eastExtent → one.eastExtent ≤ 2500 →
      10 ≤ one.deceleration → one.deceleration ≤ 200 → one.reactionTime ≤ 2000 →
      20 ≤ one.maxSpeed → one.maxSpeed ≤ 255 →
      exec (.joinPage12 c (.page1 true one)) s =
        .next (((s.heard (.crane c)).setCrane c { s.crane c with
          slotState := .joining (.awaitPage2 one), joinTimer := some s.config.joinTimer }).send (.crane c)
            (.joinAck 1 .ok))) ∧
    (∀ (one : Page1) (two : Page2), (s.crane c).slotState = .joining (.awaitPage2 one) →
      50 ≤ two.hoistSpeed → two.hoistSpeed ≤ 300 → 100 ≤ two.trolleySpeed → two.trolleySpeed ≤ 600 →
      10 ≤ two.lockTime → two.lockTime ≤ 200 →
      exec (.joinPage12 c (.page2 true two)) s =
        .next (((s.heard (.crane c)).setCrane c { s.crane c with
          slotState := .joining (.awaitPage3 one two), joinTimer := some s.config.joinTimer }).send (.crane c)
            (.joinAck 2 .ok))) ∧
    (∀ (one : Page1) (two : Page2) (three : Page3), (s.crane c).slotState = .joining (.awaitPage3 one two) →
      (∀ l, entry three.laneOffsets l ≤ 6000) →
      exec (.joinPage3 c (.fields { more := false, lanes := three })) s =
        let joined := ((s.heard (.crane c)).setCrane c { s.crane c with
          slotState := .stale, declared := some { rail := one, hoist := two, lanes := three },
          joinTimer := none }).reevaluate (s.concern c)
        .next (if s.override c = none then (joined.attempt c).send (.crane c) (.joinAck 3 .ok)
          else joined.send (.crane c) (.joinAck 3 .overridden)))

/-- A JOIN page that is not taken: its answer, and the join in progress abandoned (the slot DOWN without an alert, all
else of its record kept) while a slot with no join in progress is left alone. A page is in range where each field lies
in its range of Table 2.2, both ends included. The order of the length check and the answer to a page number above 3
are the model's (log 5, log 6). -/
def Obligations.JoinPagesTurnedAway : Prop :=
  (∀ p : Page1, page1InRange p = true ↔
    (300 ≤ p.westExtent ∧ p.westExtent ≤ 2500) ∧ (300 ≤ p.eastExtent ∧ p.eastExtent ≤ 2500) ∧
    (10 ≤ p.deceleration ∧ p.deceleration ≤ 200) ∧ p.reactionTime ≤ 2000 ∧ 20 ≤ p.maxSpeed ∧ p.maxSpeed ≤ 255) ∧
  (∀ p : Page2, page2InRange p = true ↔
    (50 ≤ p.hoistSpeed ∧ p.hoistSpeed ≤ 300) ∧ (100 ≤ p.trolleySpeed ∧ p.trolleySpeed ≤ 600) ∧
    10 ≤ p.lockTime ∧ p.lockTime ≤ 200) ∧
  (∀ p : Page3, page3InRange p = true ↔ ∀ l, entry p.laneOffsets l ≤ 6000) ∧
  ∀ (s : State) (c : Slot),
    (let kept := (s.heard (.crane c))
     let back : State := if (s.crane c).slotState.isJoining then
       (kept.setCrane c { s.crane c with slotState := .down, joinTimer := none }).reevaluate (s.concern c) else kept
     let answered : Nat → JoinResult → Host.Outcome State Fault Refusal :=
       fun page r => .next (back.send (.crane c) (.joinAck page r))
     (exec (.joinPage0 c .malformed) s = answered 0 .pageRange) ∧
     (∀ page, exec (.joinPage12 c (.malformed page)) s = answered page .pageRange) ∧
     (exec (.joinPage3 c .malformed) s = answered 3 .pageRange) ∧
     (s.fitted c = true →
       (∀ p : Page0, p.slot ≠ c.val → exec (.joinPage0 c (.fields p)) s = answered 0 .slotMismatch) ∧
       (∀ p : Page0, p.slot = c.val → p.revision ≠ 1 ∨ p.follow ≠ 3 ∨ p.more = false →
         exec (.joinPage0 c (.fields p)) s = answered 0 .pageRange) ∧
       (∀ page, exec (.joinPage12 c (.above page)) s = answered page .pageOrder) ∧
       (∀ more one, (s.crane c).slotState ≠ .joining .awaitPage1 →
         exec (.joinPage12 c (.page1 more one)) s = answered 1 .pageOrder) ∧
       (∀ more two, (∀ one, (s.crane c).slotState ≠ .joining (.awaitPage2 one)) →
         exec (.joinPage12 c (.page2 more two)) s = answered 2 .pageOrder) ∧
       (∀ p, (∀ one two, (s.crane c).slotState ≠ .joining (.awaitPage3 one two)) →
         exec (.joinPage3 c (.fields p)) s = answered 3 .pageOrder) ∧
       (∀ more one, (s.crane c).slotState = .joining .awaitPage1 → more = false ∨ page1InRange one = false →
         exec (.joinPage12 c (.page1 more one)) s = answered 1 .pageRange) ∧
       (∀ more two one, (s.crane c).slotState = .joining (.awaitPage2 one) → more = false ∨ page2InRange two = false →
         exec (.joinPage12 c (.page2 more two)) s = answered 2 .pageRange) ∧
       (∀ p one two, (s.crane c).slotState = .joining (.awaitPage3 one two) →
         p.more = true ∨ page3InRange p.lanes = false →
         exec (.joinPage3 c (.fields p)) s = answered 3 .pageRange))) ∧
    (s.fitted c = false →
      (∀ p, exec (.joinPage0 c (.fields p)) s = .next ((s.heard (.crane c)).send (.crane c) (.joinAck 0 .notAllowed))) ∧
      (∀ p, exec (.joinPage3 c (.fields p)) s =
        .next ((s.heard (.crane c)).send (.crane c) (.joinAck 3 .notAllowed))) ∧
      (∀ more one, exec (.joinPage12 c (.page1 more one)) s =
        .next ((s.heard (.crane c)).send (.crane c) (.joinAck 1 .notAllowed))) ∧
      (∀ more two, exec (.joinPage12 c (.page2 more two)) s =
        .next ((s.heard (.crane c)).send (.crane c) (.joinAck 2 .notAllowed))) ∧
      ∀ page, exec (.joinPage12 c (.above page)) s =
        .next ((s.heard (.crane c)).send (.crane c) (.joinAck page .notAllowed)))

/-- The two timers of a slot run out: the join timer returns a JOINING slot to DOWN, the report limit timer takes an
ACTIVE slot to STALE and clears its goal; positions and geometry are kept, no telegram is sent and no alert of a lost
crane raised. A stopped timer does not run out (the model's choice, log 7). -/
def Obligations.SlotTimersRunOut : Prop :=
  ∀ (s : State) (c : Slot),
    ((s.crane c).slotState.isJoining = true → (s.crane c).joinTimer.isSome = true →
      exec (.joinTimerExpiry c) s =
        .next ((s.setCrane c { s.crane c with slotState := .down, joinTimer := none }).reevaluate (s.concern c))) ∧
    ((s.crane c).joinTimer = none → exec (.joinTimerExpiry c) s = .next s) ∧
    ((s.crane c).reportTimer.isSome = true →
      exec (.reportLimitExpiry c) s =
        .next (((s.setCrane c { s.crane c with slotState := .stale, reportTimer := none }).setSpan c
          { s.spanOf c with goal := none }).reevaluate (s.concern c))) ∧
    ((s.crane c).reportTimer = none → exec (.reportLimitExpiry c) s = .next s)

/-- An accepted POSITION: record, report timer, arrival at the goal, drift from the work position, then the re-
evaluation, and the WINDOW that follows it. What a WINDOW shows of a crane that has been evaluated: its bounds held into
0..65535, its permit lines, NEAR and uncertainty on each side (clear where there is no neighbour), its goal, whether a
bound was held and whether the velocity was. -/
def Obligations.PositionIsAccepted : Prop :=
  (∀ (s : State) (c : Slot) (p : Nat) (v : Int), s.fitted c = true →
    ((s.crane c).slotState = .stale ∨ (s.crane c).slotState = .active) →
    exec (.position c (.fields { position := p, velocity := v })) s =
      let drifts : Bool := match s.flight c with
        | some f => decide (s.config.bayTolerance < distance p f.workPosition) && !(s.crane c).driftMark
        | none => false
      let goal := match (s.spanOf c).goal with
        | some g => if distance p g ≤ s.config.arriveTolerance then none else some g
        | none => none
      let stored := ((s.heard (.crane c)).setCrane c { s.crane c with
        slotState := .active, lastPosition := some p, lastVelocity := max (-255) (min 255 v),
        lastReportTime := some s.clock, reportTimer := some s.config.reportLimit,
        driftMark := (s.crane c).driftMark || drifts }).setSpan c { s.spanOf c with goal := goal }
      let checked := match s.flight c with
        | some f => if drifts then stored.raise .craneDrift (.drift c f.first s.clock) else stored
        | none => stored
      let t := checked.reevaluate (s.concern c)
      .next (t.send (.crane c) (t.windowReply c (decide (v < -255 ∨ 255 < v))))) ∧
  ∀ (s : State) (c : Slot) (x : Window) (clamped : Bool), (s.spanOf c).window = some x →
    let known : Slot → Prop := fun d => (s.crane d).slotState = .active ∧ (s.crane d).lastPosition ≠ none
    ∃ w : WindowReply, s.windowReply c clamped = .window w ∧
      (w.lo : Int) = max 0 (min 65535 x.lo) ∧ (w.hi : Int) = max 0 (min 65535 x.hi) ∧
      w.eastPermit = (s.spanOf c).eastPermit ∧ w.westPermit = (s.spanOf c).westPermit ∧
      (w.eastNear = true ↔ (∃ d, s.nearestEast c d) ∧ s.watch c = some .near) ∧
      (w.westNear = true ↔ ∃ b, s.nearestWest c b ∧ s.watch b = some .near) ∧
      (w.eastUncertain = true ↔ ∃ d, s.nearestEast c d ∧ ¬ known d) ∧
      (w.westUncertain = true ↔ ∃ b, s.nearestWest c b ∧ ¬ known b) ∧
      w.goal = (s.spanOf c).goal ∧
      (w.saturated = true ↔ x.lo < 0 ∨ 65535 < x.lo ∨ x.hi < 0 ∨ 65535 < x.hi) ∧ w.clamped = clamped

/-- LEAVE: refused with a lift in flight; in DOWN nothing changes; otherwise the slot goes DOWN, its join, timers and
goal end, CRANE_LOST is raised and the cranes re-evaluated. The answer is WINDOW. A port whose silence timer runs
out goes link-down and drops the telegrams that wait; a fitted crane that is not DOWN is then lost: DOWN, timers
stopped, goal cleared, CRANE_LOST raised, the cranes re-evaluated. The other owners change nothing. A stopped timer
does not run out (the model's choice, log 7). That a telegram half sent is dropped with the rest is the model's
choice (log 18). -/
def Obligations.CraneIsLost : Prop :=
  (∀ (s : State) (c : Slot), s.fitted c = true →
     (∀ f, s.flight c = some f → exec (.leave c (.fields ())) s =
       .next ((s.heard (.crane c)).send (.crane c) (.refuse .leave .moveInFlight .none))) ∧
     (s.flight c = none → (s.crane c).slotState = .down → exec (.leave c (.fields ())) s =
       .next ((s.heard (.crane c)).send (.crane c) ((s.heard (.crane c)).windowReply c false))) ∧
     (s.flight c = none → (s.crane c).slotState ≠ .down → exec (.leave c (.fields ())) s =
       let t := ((((s.heard (.crane c)).setCrane c { s.crane c with
         slotState := .down, joinTimer := none, reportTimer := none }).setSpan c
           { s.spanOf c with goal := none }).raise .craneLost (.crane c s.clock)).reevaluate (s.concern c)
       .next (t.send (.crane c) (t.windowReply c false)))) ∧
  (∀ (s : State) (p : PortId),
     let down := s.setPort p { s.port p with linkUp := false, silence := none, outbox := [] }
     ((s.port p).silence = none → exec (.linkSilenceExpiry p) s = .next s) ∧
     ((s.port p).silence ≠ none →
       (p = .lane ∨ p = .gang ∨ p = .plan → exec (.linkSilenceExpiry p) s = .next down) ∧
       ∀ c, p = .crane c →
         (s.fitted c = false ∨ (s.crane c).slotState = .down → exec (.linkSilenceExpiry p) s = .next down) ∧
         (s.fitted c = true → (s.crane c).slotState ≠ .down → exec (.linkSilenceExpiry p) s =
           .next ((((down.setCrane c { s.crane c with slotState := .down, joinTimer := none, reportTimer := none }).setSpan
             c { s.spanOf c with goal := none }).raise .craneLost (.crane c s.clock)).reevaluate (s.concern c)))))

/-! ### Travel, gap sensor lines, QUAY-HALT (chapter 3) -/

/-- A TRAVEL: refused on an unfitted slot, or with the first reason of R43's list, or granted with the target held
into the window, the goal stored and the cranes concerned re-evaluated. TRAVEL_CANCEL in STALE or ACTIVE, whatever the
mode and the halt: a held goal is cleared with a re-evaluation, and without one nothing changes; the answer is WINDOW.
In DOWN or JOINING it is refused with NOT_ACTIVE. -/
def Obligations.TravelGoalsAreGrantedAndCancelled : Prop :=
  (∀ (s : State) (c : Slot) (target : Nat),
     (let refused : Reason → Host.Outcome State Fault Refusal :=
        fun r => .next ((s.heard (.crane c)).send (.crane c) (.refuse .travel r .none))
      (s.fitted c = false → exec (.travel c (.fields target)) s = refused .notActive) ∧
      (s.fitted c = true → s.mode ≠ .operating → exec (.travel c (.fields target)) s = refused .notOperating) ∧
      (s.fitted c = true → s.mode = .operating → s.halted = true → exec (.travel c (.fields target)) s = refused .halted) ∧
      (s.fitted c = true → s.mode = .operating → s.halted = false → (s.crane c).slotState ≠ .active →
        exec (.travel c (.fields target)) s = refused .notActive) ∧
      (∀ f, s.fitted c = true → s.mode = .operating → s.halted = false → (s.crane c).slotState = .active →
        s.flight c = some f → exec (.travel c (.fields target)) s = refused .moveInFlight) ∧
      (s.fitted c = true → s.mode = .operating → s.halted = false → (s.crane c).slotState = .active →
        s.flight c = none → (s.window c).hi < (s.window c).lo → exec (.travel c (.fields target)) s = refused .windowEmpty)) ∧
     (s.fitted c = true → s.mode = .operating → s.halted = false → (s.crane c).slotState = .active → s.flight c = none →
       0 ≤ (s.window c).lo → (s.window c).lo ≤ (s.window c).hi →
       ∃ goal : Nat, (goal : Int) = max (s.window c).lo (min (s.window c).hi target) ∧
         exec (.travel c (.fields target)) s =
           let t := ((s.heard (.crane c)).setSpan c { s.spanOf c with goal := some goal }).reevaluate (s.concern c)
           .next (t.send (.crane c) (.travelGrant goal (heldPosition (t.window c).lo) (heldPosition (t.window c).hi)
             (decide (goal ≠ target)) (t.window c).held)))) ∧
  (∀ (s : State) (c : Slot), s.fitted c = true →
     (((s.crane c).slotState = .stale ∨ (s.crane c).slotState = .active) →
       exec (.travelCancel c (.fields ())) s =
         let t := if (s.spanOf c).goal = none then s.heard (.crane c)
           else ((s.heard (.crane c)).setSpan c { s.spanOf c with goal := none }).reevaluate (s.concern c)
         .next (t.send (.crane c) (t.windowReply c false))) ∧
     ((s.crane c).slotState = .down ∨ (s.crane c).slotState.isJoining = true →
       exec (.travelCancel c (.fields ())) s =
         .next ((s.heard (.crane c)).send (.crane c) (.refuse .travelCancel .notActive .none))))

/-! ### The move cycle (chapter 7) -/

/-- A TAKE that finds a lift, or is refused before any candidate is examined, in the order of R119 and R120. -/
def Obligations.TakeIsAnsweredInOrder : Prop :=
  ∀ (s : State) (c : Slot), s.fitted c = true →
    let kept := s.heard (.crane c)
    let refused : Reason → Host.Outcome State Fault Refusal :=
      fun r => .next (kept.send (.crane c) (.refuse .take r .none))
    (∀ f, s.flight c = some f → (s.crane c).slotState = .active →
      exec (.take c (.fields ())) s = .next (kept.send (.crane c) (kept.moveReply c f))) ∧
    (∀ f, s.flight c = some f → (s.crane c).slotState ≠ .active →
      exec (.take c (.fields ())) s = refused .notActive) ∧
    (s.flight c = none →
      (s.mode ≠ .operating → exec (.take c (.fields ())) s = refused .notOperating) ∧
      (s.mode = .operating → s.halted = true → exec (.take c (.fields ())) s = refused .halted) ∧
      (s.mode = .operating → s.halted = false → (s.crane c).slotState ≠ .active →
        exec (.take c (.fields ())) s = refused .notActive) ∧
      (s.mode = .operating → s.halted = false → (s.crane c).slotState = .active →
        (s.queue c = [] → exec (.take c (.fields ())) s = refused .noMove) ∧
        (s.queue c ≠ [] → 192 ≤ s.log.length → exec (.take c (.fields ())) s = refused .logBacklog) ∧
        (s.queue c ≠ [] → s.log.length < 192 → (∀ g ∈ s.candidates c, s.groupRefusal c g ≠ none) →
          ∀ head reason info, (groupsOf (s.queue c)).head? = some head →
            s.groupRefusal c head = some (reason, info) → head ∈ s.candidates c →
            exec (.take c (.fields ())) s = .next (kept.send (.crane c) (.refuse .take reason info)))))

/-- An accepted TAKE takes the first candidate that passes: its records ASSIGNED, its footprint claimed, the in-flight
record created, the drift mark cleared, the cranes re-evaluated and a truck asked for; the answer is MOVE. A MOVE
carries the slot, the group in flight as it stands and the record of each of its moves in queue order. -/
def Obligations.TakeTakesTheFirstReadyGroup : Prop :=
  (∀ (s : State) (c : Slot) (passed rest : List Group) (g : Group), s.fitted c = true → s.flight c = none →
    s.mode = .operating → s.halted = false → (s.crane c).slotState = .active → s.queue c ≠ [] → s.log.length < 192 →
    (match entry s.config.takeModes c with
      | .inOrder => (groupsOf (s.queue c)).take 1
      | .firstReady => (groupsOf (s.queue c)).take s.config.lookahead) = passed ++ g :: rest →
    (∀ h ∈ passed, s.groupRefusal c h ≠ none) → s.groupRefusal c g = none →
    exec (.take c (.fields ())) s =
      let f : Flight := {
        first := g.firstMove.tag, second := g.secondMove.map fun m => m.tag, job := g.firstMove.job,
        phase := .assigned, footprint := g.footprint, workPosition := s.workPosition g.footprint,
        truck := (match g.firstMove.job with
          | .hatchOff | .hatchOn => .notNeeded
          | .discharge _ | .load _ => .pending),
        lane := none, truckId := none, recallCount := 0, takenTime := s.clock }
      let assigned := (s.heard (.crane c)).setQueue c ((s.queue c).map fun m =>
        if m.tag ∈ f.tags then { m with state := .assigned } else m)
      let claimed := assigned.claim c g.footprint
      let taken := (claimed.setFlight c (some f)).setCrane c { s.crane c with driftMark := false }
      let t := (taken.reevaluate (s.concern c)).attempt c
      .next (t.send (.crane c) (t.moveReply c ((t.flight c).getD f)))) ∧
  ∀ (s : State) (c : Slot) (f : Flight), s.moveReply c f = .move {
    slot := c, phase := f.phase, truck := f.truck, lane := f.lane, recallCount := f.recallCount,
    takenTime := f.takenTime, footprint := f.footprint, workPosition := f.workPosition,
    moves := f.tags.filterMap fun tag => (s.queue c).find? fun m => m.tag == tag }

/-- What a candidate group must meet (R121, Table 7.3): complete, the crane within the bay tolerance of the work
position, no section of the footprint claimed, no gang aboard or waiting within the exclusion radius, and every
section as the kind and level require. The reason a candidate group is refused with is that of the first check of R121
that fails. -/
def Obligations.GroupIsCheckedBeforeATake : Prop :=
  (∀ (s : State) (c : Slot) (g : Group),
     s.groupRefusal c g = none ↔
       (∀ m, g ≠ .incomplete m) ∧
       distance (s.positionUsed c) (s.workPosition g.footprint) ≤ s.config.bayTolerance ∧
       (∀ i r, i ∈ g.footprint.sections → s.section? i = some r → r.claim = none ∧
         match g.firstMove.job with
         | .discharge .deck => r.unlash = 0 ∧ r.hatch = .fitted
         | .load .deck => r.hatch = .fitted
         | .discharge .hold | .load .hold => r.hatch = .lifted
         | .hatchOff => r.hatch = .fitted ∧ r.unlash = 0 ∧ r.tally = 0
         | .hatchOn => r.hatch = .lifted) ∧
       ∀ i j r, i ∈ g.footprint.sections → s.section? j = some r → distance i j ≤ s.config.exclusionRadius →
         r.gang = none ∧ r.waiting = []) ∧
  (∀ (s : State) (c : Slot) (g : Group),
     let near : (Section → Prop) → Prop := fun bad => ∃ i j r, i ∈ g.footprint.sections ∧ s.section? j = some r ∧
       distance i j ≤ s.config.exclusionRadius ∧ bad r
     let claimed := ∃ i r, i ∈ g.footprint.sections ∧ s.section? i = some r ∧ r.claim ≠ none
     let far := s.config.bayTolerance < distance (s.positionUsed c) (s.workPosition g.footprint)
     (∀ m, g = .incomplete m → s.groupRefusal c g = some (.groupIncomplete, .none)) ∧
     ((∀ m, g ≠ .incomplete m) →
       (far → s.groupRefusal c g = some (.notAtBay, .requiredPosition (s.workPosition g.footprint))) ∧
       (¬ far → claimed → s.groupRefusal c g = some (.sectionClaimed, .none)) ∧
       (¬ far → ¬ claimed → near (fun r => r.gang ≠ none) → s.groupRefusal c g = some (.gangAboard, .none)) ∧
       (¬ far → ¬ claimed → ¬ near (fun r => r.gang ≠ none) → near (fun r => r.waiting ≠ []) →
         s.groupRefusal c g = some (.gangWaiting, .none)) ∧
       (¬ far → ¬ claimed → ¬ near (fun r => r.gang ≠ none) → ¬ near (fun r => r.waiting ≠ []) →
         let reason : Section → Option Reason := fun r =>
           match g.firstMove.job with
           | .discharge .deck =>
             if r.unlash ≠ 0 then some .lashed else if r.hatch = .lifted then some .hatchLifted else none
           | .load .deck => if r.hatch = .lifted then some .hatchLifted else none
           | .discharge .hold | .load .hold => if r.hatch = .fitted then some .hatchFitted else none
           | .hatchOff =>
             if r.hatch = .lifted then some .hatchLifted
             else if r.unlash ≠ 0 then some .lashed
             else if r.tally ≠ 0 then some .deckOccupied
             else none
           | .hatchOn => if r.hatch = .fitted then some .hatchFitted else none
         ∀ before i behind r x, g.footprint.sections = before ++ i :: behind →
           (∀ j q, j ∈ before → s.section? j = some q → reason q = none) → s.section? i = some r → reason r = some x →
           s.groupRefusal c g = some (x, .none))))

/-- Reports of LOCKED and ALOFT by the phase the group holds (Table 7.4): a LOAD locks only with its truck PRESENT, a
repeated report changes nothing, any other is refused with PHASE_ORDER. -/
def Obligations.PhaseReportsAreTaken : Prop :=
  ∀ (s : State) (c : Slot) (f : Flight), s.fitted c = true → s.flight c = some f →
    ((s.crane c).slotState = .stale ∨ (s.crane c).slotState = .active) →
    let kept := s.heard (.crane c)
    let answered : State → Phase → TruckState → Option Lane → Host.Outcome State Fault Refusal := fun t ph tr l =>
      .next (t.send (.crane c) (.phaseAck {
        tag := f.first, phase := some ph, truck := some tr, lane := l, outcome := none, saturated := false }))
    let refused : Reason → Host.Outcome State Fault Refusal :=
      fun r => .next (kept.send (.crane c) (.refuse .phase r .none))
    let locked := exec (.phaseLocked c (.fields { code := 2, tag := f.first })) s
    let aloft := exec (.phaseAloft c (.fields f.first)) s
    (f.phase = .assigned → (f.job.isLoad = true → f.truck = .present) →
      locked = answered (kept.setFlight c (some { f with phase := .locked })) .locked f.truck f.lane) ∧
    (f.phase = .assigned → f.job.isLoad = true → f.truck ≠ .present → locked = refused .noTruck) ∧
    (f.phase = .locked → locked = answered kept .locked f.truck f.lane) ∧
    (f.phase = .aloft → locked = refused .phaseOrder) ∧
    (f.phase = .assigned → aloft = refused .phaseOrder) ∧
    (f.phase = .aloft → aloft = answered kept .aloft f.truck f.lane) ∧
    (f.phase = .locked → f.job.isLoad = false →
      aloft = answered (kept.setFlight c (some { f with phase := .aloft })) .aloft f.truck f.lane) ∧
    (∀ code, code ≠ 2 → code ≠ 3 → code ≠ 4 →
      exec (.phaseLocked c (.fields { code := code, tag := f.first })) s = refused .badValue)

/-- The ALOFT of a LOAD in LOCKED ends its need of a truck, according to the truck state: a PRESENT truck departs, a
CALLED one is cancelled, PENDING is dropped, FAILED stays without one; the truck state becomes DEPARTED. How the truck
of an ending group is released (Table 7.5): a CALLED stand is cancelled and FREE, an OCCUPIED one departs and is
RELEASED, and in the other truck states nothing is done. -/
def Obligations.TrucksAreReleased : Prop :=
  (∀ (s : State) (c : Slot) (f : Flight), s.fitted c = true → s.flight c = some f →
     ((s.crane c).slotState = .stale ∨ (s.crane c).slotState = .active) → f.phase = .locked → f.job.isLoad = true →
     let gone : Option Lane → State := fun l =>
       (s.heard (.crane c)).setFlight c (some { f with phase := .aloft, truck := .departed, lane := l })
     let answered : State → Option Lane → Host.Outcome State Fault Refusal := fun t l =>
       .next (t.send (.crane c) (.phaseAck {
         tag := f.first, phase := some .aloft, truck := some .departed, lane := l, outcome := none,
         saturated := false }))
     let aloft := exec (.phaseAloft c (.fields f.first)) s
     (∀ l k id, f.truck = .present → f.lane = some l → s.stand c l = .occupied k id →
       aloft = answered (((gone (some l)).setStand c l (.released k.number id)).send .lane (.depart k.number c l id))
         (some l)) ∧
     (∀ l k due deadline held, f.truck = .called → f.lane = some l → s.stand c l = .called k due deadline held →
       aloft = answered (((gone none).setStand c l .free).send .lane (.cancel k.number c l)) none) ∧
     (f.truck = .pending → aloft = answered (gone none) none) ∧
     (f.truck = .failed → aloft = answered (gone f.lane) f.lane)) ∧
  (∀ (s : State) (c : Slot) (f : Flight),
     (∀ l k due deadline held, f.truck = .called → f.lane = some l → s.stand c l = .called k due deadline held →
       s.releaseTruck c f = (s.setStand c l .free).send .lane (.cancel k.number c l)) ∧
     (∀ l k id, f.truck = .present → f.lane = some l → s.stand c l = .occupied k id →
       s.releaseTruck c f = (s.setStand c l (.released k.number id)).send .lane (.depart k.number c l id)) ∧
     (f.truck = .notNeeded ∨ f.truck = .pending ∨ f.truck = .departed ∨ f.truck = .failed →
       s.releaseTruck c f = s))

/-- An accepted LANDED completes the group, its effects in the order of R130; a DISCHARGE lands only on a PRESENT truck,
and a group not aloft is refused with PHASE_ORDER. That the answer carries no phase, truck state or lane is the
model's reading (log 13). -/
def Obligations.LandedCompletesTheGroup : Prop :=
  ∀ (s : State) (c : Slot) (f : Flight), s.fitted c = true → s.flight c = some f →
    ((s.crane c).slotState = .stale ∨ (s.crane c).slotState = .active) →
    let kept := s.heard (.crane c)
    let records := f.tags.filterMap fun tag => (s.queue c).find? fun m => m.tag == tag
    let counted := kept.landed f.job f.footprint records
    let departed := if f.job.isDischarge then counted.1.releaseTruck c f else counted.1
    let released := departed.releaseFootprint f.footprint
    let logged := released.appendLog c f.first (records.map fun m => {
      tag := m.tag, slot := c, job := m.job, bay := m.bay, size := m.size, lane := f.lane, truckId := f.truckId,
      takenTime := f.takenTime, endTime := s.clock, recallCount := f.recallCount, result := .done })
    let removed := logged.setQueue c ((s.queue c).filter fun m => decide (m.tag ∉ f.tags))
    let t := ((removed.setFlight c none).setCrane c { s.crane c with driftMark := false }).reevaluate (s.concern c)
    let landed := exec (.phaseLanded c (.fields f.first)) s
    let refused : Reason → Host.Outcome State Fault Refusal :=
      fun r => .next (kept.send (.crane c) (.refuse .phase r .none))
    (f.phase = .aloft → (f.job.isDischarge = true → f.truck = .present) →
      landed = .next (t.send (.crane c) (.phaseAck {
        tag := f.first, phase := none, truck := none, lane := none, outcome := some .landed,
        saturated := counted.2 }))) ∧
    (f.phase = .aloft → f.job.isDischarge = true → f.truck ≠ .present → landed = refused .noTruck) ∧
    (f.phase ≠ .aloft → landed = refused .phaseOrder)

/-- What a landing changes on the sections, move by move in queue order: a DECK load adds 1 to the tally of each of
its sections and its lash units to the lash owed of the lowest, a DECK discharge takes 1 off each tally, a hatch move
sets the hatch of the footprint, a HOLD move changes nothing. Counters are held at their range ends, and the mark says
whether one was. A discharge that finds a tally at 0 raises TALLY_LOW with that section and the tag: with two such
sections and the flag clear, the detail kept is that of one of them (which one is open: log 11); with none, or with the
flag set, the alerts stand as they were. -/
def Obligations.LandingCountsOnTheSections : Prop :=
  (∀ (s : State) (f : Footprint) (m : MoveRecord) (i : Nat),
    ((s.landed (.load .deck) f [m]).1.section? i = (s.section? i).map fun r => { r with
      tally := if i ∈ (bayFootprint m.bay).sections then min 255 (r.tally + 1) else r.tally
      lash := if i = (bayFootprint m.bay).lowest then min 1023 (r.lash + m.lash) else r.lash }) ∧
    ((s.landed (.discharge .deck) f [m]).1.section? i = (s.section? i).map fun r => { r with
      tally := if i ∈ (bayFootprint m.bay).sections then r.tally - 1 else r.tally }) ∧
    ((s.landed .hatchOff f [m]).1.section? i = (s.section? i).map fun r => { r with
      hatch := if i ∈ f.sections then .lifted else r.hatch }) ∧
    ((s.landed .hatchOn f [m]).1.section? i = (s.section? i).map fun r => { r with
      hatch := if i ∈ f.sections then .fitted else r.hatch }) ∧
    s.landed (.load .hold) f [m] = (s, false) ∧ s.landed (.discharge .hold) f [m] = (s, false)) ∧
  (∀ (s : State) (f : Footprint) (m : MoveRecord),
    ((s.landed (.load .deck) f [m]).2 = true ↔
      (∃ i r, i ∈ (bayFootprint m.bay).sections ∧ s.section? i = some r ∧ 255 < r.tally + 1) ∨
      ∃ r, s.section? (bayFootprint m.bay).lowest = some r ∧ 1023 < r.lash + m.lash) ∧
    ((s.landed (.discharge .deck) f [m]).2 = true ↔
      ∃ i r, i ∈ (bayFootprint m.bay).sections ∧ s.section? i = some r ∧ r.tally = 0) ∧
    (let t := (s.landed (.discharge .deck) f [m]).1
     let low : Nat → Prop := fun i =>
       i ∈ (bayFootprint m.bay).sections ∧ ∃ r, s.section? i = some r ∧ r.tally = 0
     (∀ i, low i → s.alert .tallyLow = none →
       (∃ j, low j ∧ t.alert .tallyLow = some (.tally j m.tag s.clock)) ∧
         (∀ a, a ≠ .tallyLow → t.alert a = s.alert a) ∧ t.attn = attnLevel t.alerts s.config.alertMask) ∧
     ((∀ i, ¬ low i) ∨ s.alert .tallyLow ≠ none → t.alerts = s.alerts ∧ t.attn = s.attn))) ∧
  ∀ (s : State) (l : DeckLevel) (load : Bool) (f : Footprint) (a b : MoveRecord),
    let job : Job := if load then .load l else .discharge l
    s.landed job f [a, b] = (((s.landed job f [a]).1.landed job f [b]).1,
      (s.landed job f [a]).2 || ((s.landed job f [a]).1.landed job f [b]).2)

/-- ABANDON of a group not yet aloft, and SET_BACK of a DISCHARGE or hatch group aloft, end it without completion:
records QUEUED again, footprint released, truck released by its state, the record removed. The other phases and
kinds are refused. FORCE_RELEASE of a DOWN crane's group: truck and footprint released, no counter changed, FORCED
records appended, the moves freed, the record removed. Any other crane is refused. That the answer carries no phase,
truck state or lane is the model's reading (log 13). -/
def Obligations.GroupEndsWithoutLanding : Prop :=
  (∀ (s : State) (c : Slot) (f : Flight), s.fitted c = true → s.flight c = some f →
     ((s.crane c).slotState = .stale ∨ (s.crane c).slotState = .active) →
     let kept := s.heard (.crane c)
     let queued := kept.setQueue c ((s.queue c).map fun m =>
       if m.tag ∈ f.tags then { m with state := .queued } else m)
     let released := (queued.releaseFootprint f.footprint).releaseTruck c f
     let t := ((released.setFlight c none).setCrane c { s.crane c with driftMark := false }).reevaluate (s.concern c)
     let ended : GroupOutcome → Host.Outcome State Fault Refusal := fun o =>
       .next (t.send (.crane c) (.phaseAck {
         tag := f.first, phase := none, truck := none, lane := none, outcome := some o, saturated := false }))
     let abandon := exec (.abandon c (.fields f.first)) s
     let setBack := exec (.setBack c (.fields f.first)) s
     let refused : RequestType → Reason → Host.Outcome State Fault Refusal :=
       fun q r => .next (kept.send (.crane c) (.refuse q r .none))
     (f.phase ≠ .aloft → abandon = ended .abandoned) ∧
     (f.phase = .aloft → abandon = refused .abandon .loadAboard) ∧
     (f.job.isLoad = false → f.phase = .aloft → setBack = ended .setBack) ∧
     (f.job.isLoad = false → f.phase ≠ .aloft → setBack = refused .setBack .phaseOrder) ∧
     (f.job.isLoad = true → setBack = refused .setBack .notAllowed)) ∧
  ((∀ (s : State) (c : Slot) (f : Flight), (s.crane c).slotState = .down → s.flight c = some f →
     exec (.forceRelease (.fields c.val)) s =
       let records := f.tags.filterMap fun tag => (s.queue c).find? fun m => m.tag == tag
       let released := ((s.heard .plan).releaseTruck c f).releaseFootprint f.footprint
       let logged := released.appendLog c f.first (records.map fun m => {
         tag := m.tag, slot := c, job := m.job, bay := m.bay, size := m.size, lane := f.lane, truckId := f.truckId,
         takenTime := f.takenTime, endTime := s.clock, recallCount := f.recallCount, result := .forced })
       let removed := logged.setQueue c ((s.queue c).filter fun m => decide (m.tag ∉ f.tags))
       let t := ((removed.setFlight c none).setCrane c { s.crane c with driftMark := false }).reevaluate (s.concern c)
       .next (t.send .plan (.planAck (.forced c f.tags)))) ∧
   (∀ s : State,
     let refused : Reason → Host.Outcome State Fault Refusal :=
       fun r => .next ((s.heard .plan).send .plan (.refuse .forceRelease r .none))
     (∀ n, 8 ≤ n → exec (.forceRelease (.fields n)) s = refused .badValue) ∧
     ∀ c : Slot, ((s.crane c).slotState ≠ .down → exec (.forceRelease (.fields c.val)) s = refused .notAllowed) ∧
       ((s.crane c).slotState = .down → s.flight c = none →
         exec (.forceRelease (.fields c.val)) s = refused .noMove)))

/-- Appending completion records: at the tail, and a count that reaches 192 from below sets the backlog state and
raises LOG_BACKLOG with the count after the append. LOG_READ answers the count and the oldest records up to k of 1..8,
changing nothing; LOG_FREE removes the oldest n, no more than there are, and a count below 192 clears the backlog
state. -/
def Obligations.LogIsAppendedReadAndFreed : Prop :=
  (∀ (s : State) (c : Slot) (tag : Nat) (rs : List CompletionRecord),
     (s.log.length < 192 → 192 ≤ s.log.length + rs.length →
       s.appendLog c tag rs = ({ s with log := s.log ++ rs, backlog := true } : State).raise .logBacklog
         (.backlog c tag (s.log.length + rs.length) s.clock)) ∧
     (192 ≤ s.log.length ∨ s.log.length + rs.length < 192 → s.appendLog c tag rs = { s with log := s.log ++ rs })) ∧
  (∀ (s : State) (n : Nat),
     (1 ≤ n → n ≤ 8 → exec (.logRead (.fields n)) s =
       .next ((s.heard .plan).send .plan (.readReply (.log s.log.length (s.log.take n)) none))) ∧
     (n = 0 ∨ 8 < n → exec (.logRead (.fields n)) s =
       .next ((s.heard .plan).send .plan (.refuse .logRead .badValue .none))) ∧
     exec (.logFree (.fields n)) s =
       .next (({ s.heard .plan with
         log := s.log.drop n
         backlog := if s.log.length - n < 192 then false else s.backlog } : State).send .plan
           (.planAck (.logFree (min n s.log.length) (s.log.length - n) (decide (s.log.length < n))))))

/-! ### Sections: claims, grants (chapter 4) -/

/-- A section considered for a grant: the head of its waiting list boards when no gang is aboard and no section within
the exclusion radius is claimed, checked in at that time, and a GRANT is sent; otherwise nothing changes. The release
of a footprint clears its claims and considers every section within the radius in ascending order. -/
def Obligations.GrantsFollowARelease : Prop :=
  (∀ (s : State) (i : Nat) (r : Section), s.section? i = some r →
    let free := r.gang = none ∧ ∀ j q, s.section? j = some q → distance i j ≤ s.config.exclusionRadius → q.claim = none
    (∀ g rest head task, r.waiting = g :: rest → free → s.gang g = .waiting head i task →
      s.consider i = ((s.changeSection i fun q => { q with gang := some g, waiting := rest }).setGang g
        (.aboard head i task s.clock false)).send .gang (.grant g i)) ∧
    (r.waiting = [] ∨ ¬ free → s.consider i = s)) ∧
  (∀ (s : State) (f : Footprint), ∃ order : List Nat, s.releaseFootprint f = order.foldl State.consider (s.unclaim f) ∧
    order.Pairwise (· < ·) ∧
    ∀ i, i ∈ order ↔ 1 ≤ i ∧ i ≤ s.sections.length ∧ ∃ j ∈ f.sections, distance j i ≤ s.config.exclusionRadius) ∧
  ∀ (s : State) (c : Slot) (f : Footprint) (i : Nat),
    ((s.claim c f).section? i = (s.section? i).map fun r => { r with
      claim := if i ∈ f.sections then some c else r.claim }) ∧
    (s.unclaim f).section? i = (s.section? i).map fun r => { r with
      claim := if i ∈ f.sections then none else r.claim }

/-! ### Truck lanes and stands (chapter 8) -/

/-- A lane telegram on a link-down lane port: the link comes up first, a CALL again for every CALLED stand and a DEPART
for every RELEASED one in ascending order of slot and lane, then every PENDING request attempted in ascending order
of slot; then the telegram is taken as on a link that was up. The mark SATURATED of a CALL sent again is the model's
reading (log 22). -/
def Obligations.LaneLinkComesUpFirst : Prop :=
  ∀ (s : State) (i : Instr) (t : RequestType), telegramOf i = some (.lane, t) → s.lanePort.linkUp = false →
    let again : List Telegram := all8.flatMap fun c => all8.flatMap fun l =>
      match s.stand c l with
      | .called k due _ held => [.call {
          number := k.number, slot := c, lane := l, railPosition := k.railPosition, due := due,
          direction := k.direction, size := k.size, saturated := held, tags := k.tags }]
      | .released number truck => [.depart number c l truck]
      | .free | .occupied _ _ => []
    let up := (s.heard .lane).setPort .lane { (s.heard .lane).lanePort with outbox := s.lanePort.outbox ++ again }
    exec i s = exec i (all8.foldl State.attempt up)

/-- An attempt of a PENDING request with the lane port up and an eligible lane: the first eligible lane from the one
after the rotation pointer on is called, with the next call number, the due time by the lead time held within 6000 ds,
and the deadline by the grace. When an attempt changes nothing: no group in flight, a truck that is not PENDING, a
lane port that is down, or no eligible lane, whichever of the four conditions each lane fails: the lane mask of the
geometry in force, those of all the group's moves (the lanes common to a twin), the open mask, a FREE stand. -/
def Obligations.TruckIsCalledToAnEligibleLane : Prop :=
  (∀ (s : State) (c : Slot) (f : Flight) (m : MoveRecord) (rest : List MoveRecord) (l : Lane),
     s.flight c = some f → f.truck = .pending → s.lanePort.linkUp = true →
     (f.tags.filterMap fun tag => (s.queue c).find? fun m => m.tag == tag) = m :: rest →
     let eligible : Lane → Prop := fun l =>
       (s.geometry c).lanes.laneMask.getLsbD l.val = true ∧ (∀ r ∈ m :: rest, r.laneMask.getLsbD l.val = true) ∧
         s.laneMask.getLsbD l.val = true ∧ s.stand c l = .free
     eligible l → (∀ j : Fin 8, j < l - (s.pointer c + 1) → ¬ eligible (s.pointer c + 1 + j)) →
     let reach := match s.vessel with
       | some v => v.rowZero + m.row * v.rowPitch
       | none => 0
     let trolley := ceilDiv ((reach + entry (s.geometry c).lanes.laneOffsets l) * 10) (s.geometry c).hoist.trolleySpeed
     let hoist := ceilDiv (m.height * 100) (s.geometry c).hoist.hoistSpeed
     let lead := if f.job.isLoad then trolley else (s.geometry c).hoist.lockTime + 2 * hoist + trolley
     let due := s.clock + BitVec.ofNat 32 (min 6000 lead)
     let deadline := due + BitVec.ofNat 32 s.config.grace
     let call : Call := {
       number := s.callCounter, tags := f.tags, direction := if f.job.isLoad then .deliver else .receive,
       size := m.size, railPosition := f.workPosition }
     s.attempt c =
       ((({ s with
           pointers := put s.pointers c l
           callCounter := if s.callCounter = 65535 then 1 else s.callCounter + 1 } : State).setStand c l
         (.called call due deadline (decide (6000 < lead)))).setFlight c
           (some { f with truck := .called, lane := some l })).send .lane (.call {
             number := s.callCounter, slot := c, lane := l, railPosition := f.workPosition, due := due,
             direction := call.direction, size := m.size, saturated := decide (6000 < lead), tags := f.tags })) ∧
  (∀ (s : State) (c : Slot),
     (s.flight c = none ∨ s.lanePort.linkUp = false ∨ ∃ f, s.flight c = some f ∧ f.truck ≠ .pending) →
     s.attempt c = s) ∧
  ∀ (s : State) (c : Slot) (f : Flight), s.flight c = some f →
    (∀ l : Lane, (s.geometry c).lanes.laneMask.getLsbD l.val = false ∨
      (∃ r ∈ f.tags.filterMap fun tag => (s.queue c).find? fun m => m.tag == tag, r.laneMask.getLsbD l.val = false) ∨
      s.laneMask.getLsbD l.val = false ∨ s.stand c l ≠ .free) →
    s.attempt c = s

/-- LANES: the mask is stored, every CALLED stand in a lane it does not hold is cancelled in ascending order of slot
and lane with its group's truck PENDING again and the count left alone, then every PENDING request is attempted in
ascending order of slot. The LANE_ACK, with the number of calls cancelled, leaves before the CANCELs and CALLs. -/
def Obligations.LanesAreOpenedAndClosed : Prop :=
  ∀ (s : State) (mask : Mask), s.lanePort.linkUp = true →
    ∃ closed : List (Slot × Lane),
      (∀ c l, (c, l) ∈ closed ↔ (s.stand c l).name = .called ∧ mask.getLsbD l.val = false) ∧
      closed.Pairwise (fun a b => a.1 < b.1 ∨ (a.1 = b.1 ∧ a.2 < b.2)) ∧
      exec (.lanes (.fields mask)) s =
        let close : State → Slot × Lane → State := fun t at_ =>
          match t.stand at_.1 at_.2, t.flight at_.1 with
          | .called k _ _ _, some f => ((t.setStand at_.1 at_.2 .free).send .lane (.cancel k.number at_.1 at_.2)).setFlight
              at_.1 (some { f with truck := .pending, lane := none, truckId := none })
          | .called k _ _ _, none => (t.setStand at_.1 at_.2 .free).send .lane (.cancel k.number at_.1 at_.2)
          | _, some f => t.setFlight at_.1 (some { f with truck := .pending, lane := none, truckId := none })
          | _, none => t
        let opened : State := { s.heard .lane with laneMask := mask }
        .next ((all8.foldl State.attempt (closed.foldl close opened)).insertTelegrams .lane s.lanePort.outbox.length
          [.laneAck (.lanes mask closed.length)])

/-- ARRIVE at a stand: on a CALLED stand of that call number the truck is PRESENT and the crane is told; a stale number
or a FREE stand is CALL_STALE, an OCCUPIED or RELEASED one STAND_STATE; a truck id or a call number of 0, and a slot
or lane outside 0..7, are BAD_VALUE before that. A refusal carries the stand's state. Where no stand is named, none
is carried (the model's reading, log 27). That STAND_READY waits on a link-up crane port also when the slot is DOWN is
the model's choice (log 36). -/
def Obligations.TruckArrives : Prop :=
  ∀ (s : State) (c : Slot) (l : Lane) (call truck : Nat), s.lanePort.linkUp = true →
    let arrive := exec (.arrive (.fields { call := call, slot := c.val, lane := l.val, truck := truck })) s
    let refused : Reason → Host.Outcome State Fault Refusal := fun r =>
      .next ((s.heard .lane).send .lane (.refuse .arrive r (.stand (s.stand c l).name)))
    (∀ k due deadline held f, truck ≠ 0 → call ≠ 0 → s.stand c l = .called k due deadline held → k.number = call →
      s.flight c = some f →
      arrive = .next (((((s.heard .lane).setStand c l (.occupied k truck)).setFlight c
        (some { f with truck := .present, truckId := some truck })).send (.crane c)
          (.standReady f.first l truck)).send .lane (.laneAck (.arrived c l .occupied k.tags k.direction)))) ∧
    (∀ k due deadline held, truck ≠ 0 → call ≠ 0 → s.stand c l = .called k due deadline held → k.number ≠ call →
      arrive = refused .callStale) ∧
    (truck ≠ 0 → call ≠ 0 → s.stand c l = .free → arrive = refused .callStale) ∧
    (truck ≠ 0 → call ≠ 0 → (s.stand c l).name = .occupied ∨ (s.stand c l).name = .released →
      arrive = refused .standState) ∧
    (truck = 0 ∨ call = 0 → arrive = refused .badValue) ∧
    ∀ slot lane, 8 ≤ slot ∨ 8 ≤ lane →
      exec (.arrive (.fields { call := call, slot := slot, lane := lane, truck := truck })) s =
        .next ((s.heard .lane).send .lane (.refuse .arrive .badValue .none))

/-- GONE at an OCCUPIED stand of that truck: the stand is FREE, and a LOAD in LOCKED fails its truck outright with no
lapse counted while any other group's call has lapsed. At a RELEASED stand of that truck it is a CLEAR. Otherwise it
is refused with STAND_STATE. The LANE_ACK leaves before a CALL that follows. CLEAR at a RELEASED stand: the stand is
FREE and the crane's PENDING request is attempted. At any other stand it is refused with STAND_STATE. The truck
state in the LANE_ACK and the empty refusal where no stand is named are the model's reading (log 26, log 27). That
STAND_LOST waits on a link-up crane port also when the slot is DOWN is the model's choice (log 36). -/
def Obligations.TruckLeavesAndStandIsCleared : Prop :=
  (∀ (s : State) (c : Slot) (l : Lane) (truck : Nat), s.lanePort.linkUp = true →
     let gone := exec (.gone (.fields { slot := c.val, lane := l.val, truck := truck })) s
     let freed := (s.heard .lane).setStand c l .free
     let refused : Host.Outcome State Fault Refusal :=
       .next ((s.heard .lane).send .lane (.refuse .gone .standState (.stand (s.stand c l).name)))
     (∀ k f, truck ≠ 0 → s.stand c l = .occupied k truck → s.flight c = some f → f.job.isLoad = true → f.phase = .locked →
       gone = .next (((((freed.setFlight c (some { f with truck := .failed, lane := none })).send (.crane c)
         (.standLost f.first l .gone)).raise .truckGone (.truck c f.first l s.clock))).send .lane
           (.laneAck (.gone c l .free (some .failed))))) ∧
     (∀ k f, truck ≠ 0 → s.stand c l = .occupied k truck → s.flight c = some f → ¬ (f.job.isLoad = true ∧ f.phase = .locked) →
       gone = let t := freed.lapse c l .gone
         .next (t.insertTelegrams .lane s.lanePort.outbox.length
           [.laneAck (.gone c l (t.stand c l).name ((t.flight c).map fun f => f.truck))])) ∧
     (∀ number, truck ≠ 0 → s.stand c l = .released number truck →
       gone = let t := freed.attempt c
         .next (t.insertTelegrams .lane s.lanePort.outbox.length [.laneAck (.clear c l (t.stand c l).name)])) ∧
     (truck ≠ 0 → (∀ k, s.stand c l ≠ .occupied k truck) → (∀ number, s.stand c l ≠ .released number truck) →
       gone = refused) ∧
     (truck = 0 → gone = .next ((s.heard .lane).send .lane (.refuse .gone .badValue (.stand (s.stand c l).name)))) ∧
     ∀ slot lane, 8 ≤ slot ∨ 8 ≤ lane → exec (.gone (.fields { slot := slot, lane := lane, truck := truck })) s =
       .next ((s.heard .lane).send .lane (.refuse .gone .badValue .none))) ∧
  (∀ (s : State) (c : Slot) (l : Lane), s.lanePort.linkUp = true →
     (∀ number truck, s.stand c l = .released number truck →
       exec (.clear (.fields { slot := c.val, lane := l.val })) s =
         let t := ((s.heard .lane).setStand c l .free).attempt c
         .next (t.insertTelegrams .lane s.lanePort.outbox.length [.laneAck (.clear c l (t.stand c l).name)])) ∧
     ((∀ number truck, s.stand c l ≠ .released number truck) →
       exec (.clear (.fields { slot := c.val, lane := l.val })) s =
         .next ((s.heard .lane).send .lane (.refuse .clear .standState (.stand (s.stand c l).name)))) ∧
     ∀ slot lane, 8 ≤ slot ∨ 8 ≤ lane → exec (.clear (.fields { slot := slot, lane := lane })) s =
       .next ((s.heard .lane).send .lane (.refuse .clear .badValue .none)))

/-- A lapsed call: the recall count rises by one, held at 7. While the calls lapsed are at most the maximum recalls
the truck is PENDING and the request is attempted; beyond it the truck is FAILED with its lane removed, the crane is
told, and the alert of the cause is raised. A call's deadline is acted on once it is reached: CANCEL, the stand FREE,
and the call has lapsed. Before it, and at a stand that is not CALLED, nothing happens (the model's choice of what the
event is then, log 8). That STAND_LOST waits on a link-up crane port also when the slot is DOWN is the model's choice
(log 36). -/
def Obligations.CallLapses : Prop :=
  (∀ (s : State) (c : Slot) (l : Lane) (cause : LostCause) (f : Flight), s.flight c = some f →
     (f.recallCount + 1 ≤ s.config.maxRecalls →
       s.lapse c l cause = (s.setFlight c (some { f with
         truck := .pending, lane := none, truckId := none, recallCount := min 7 (f.recallCount + 1) })).attempt c) ∧
     (s.config.maxRecalls < f.recallCount + 1 →
       s.lapse c l cause =
         ((s.setFlight c (some { f with
           truck := .failed, lane := none, recallCount := min 7 (f.recallCount + 1) })).send (.crane c)
             (.standLost f.first l cause)).raise
           (match cause with
             | .late => .truckLate
             | .gone => .truckGone) (.truck c f.first l s.clock))) ∧
  (∀ (s : State) (c : Slot) (l : Lane),
     (∀ k due deadline held, s.stand c l = .called k due deadline held → (s.clock - deadline).toNat < 2 ^ 31 →
       exec (.callDeadlineExpiry c l) s =
         .next (((s.setStand c l .free).send .lane (.cancel k.number c l)).lapse c l .late)) ∧
     (∀ k due deadline held, s.stand c l = .called k due deadline held → 2 ^ 31 ≤ (s.clock - deadline).toNat →
       exec (.callDeadlineExpiry c l) s = .next s) ∧
     ((s.stand c l).name ≠ .called → exec (.callDeadlineExpiry c l) s = .next s))

/-- RECALL of a group whose truck is FAILED: recall count 0, PENDING without a truck id, attempted at once. A tag not
in the pool is UNKNOWN_TAG; a tag of no group in flight, and a truck in another state, are NOT_ALLOWED. -/
def Obligations.RecallStartsTheTruckAfresh : Prop :=
  ∀ (s : State) (tag : Nat),
    let asked := exec (.recall (.fields tag)) s
    let refused : Reason → Host.Outcome State Fault Refusal :=
      fun r => .next ((s.heard .plan).send .plan (.refuse .recall r .none))
    (∀ c f, s.flight c = some f → tag ∈ f.tags → (∀ d g, s.flight d = some g → tag ∈ g.tags → d = c) →
      (∃ d m, m ∈ s.queue d ∧ m.tag = tag) →
      (f.truck = .failed → ∃ f', (((s.heard .plan).setFlight c (some { f with
          truck := .pending, truckId := none, recallCount := 0 })).attempt c).flight c = some f' ∧
        asked = .next ((((s.heard .plan).setFlight c (some { f with
          truck := .pending, truckId := none, recallCount := 0 })).attempt c).send .plan
            (.planAck (.recall f.first f'.truck f'.lane)))) ∧
      (f.truck ≠ .failed → asked = refused .notAllowed)) ∧
    ((∃ d m, m ∈ s.queue d ∧ m.tag = tag) → (∀ c f, s.flight c = some f → tag ∉ f.tags) →
      asked = refused .notAllowed) ∧
    ((∀ d m, m ∈ s.queue d → m.tag ≠ tag) → asked = refused .unknownTag)

/-! ### Lashing gangs (chapter 5) -/

/-- SIGN_ON from OFF takes the gang ashore with its headcount held to 1..12, SIGN_OFF from ASHORE takes it off; from
any other state either is refused with GANG_STATE carrying the gang's state, with the section and task of a gang WAITING
or ABOARD and nothing else of its record, and an id outside 0..7 with BAD_VALUE. -/
def Obligations.ShiftsStartAndEnd : Prop :=
  ∀ (s : State),
    let kept := s.heard .gang
    let shown : GangId → RefuseInfo := fun g => .gang (match s.gang g with
      | .off => .off
      | .ashore _ => .ashore
      | .waiting _ i task => .waiting i task
      | .aboard _ i task _ _ => .aboard i task)
    let refused : RequestType → Reason → RefuseInfo → Host.Outcome State Fault Refusal :=
      fun q r i => .next (kept.send .gang (.refuse q r i))
    (∀ (g : GangId) (n : Nat), s.gang g = .off → exec (.signOn (.fields { gang := g.val, headcount := n })) s =
      .next ((kept.setGang g (.ashore (if n = 0 then 1 else if 12 < n then 12 else n))).send .gang
        (.gangAck (.ok g (decide (n = 0 ∨ 12 < n)) false false)))) ∧
    (∀ (g : GangId) (n : Nat), s.gang g ≠ .off → exec (.signOn (.fields { gang := g.val, headcount := n })) s =
      refused .signOn .gangState (shown g)) ∧
    (∀ (g : GangId) (n : Nat), s.gang g = .ashore n → exec (.signOff (.fields g.val)) s =
      .next ((kept.setGang g .off).send .gang (.gangAck (.ok g false false false)))) ∧
    (∀ g : GangId, (∀ n, s.gang g ≠ .ashore n) → exec (.signOff (.fields g.val)) s =
      refused .signOff .gangState (shown g)) ∧
    ∀ id n, 8 ≤ id → exec (.signOn (.fields { gang := id, headcount := n })) s = refused .signOn .badValue .none ∧
      exec (.signOff (.fields id)) s = refused .signOff .badValue .none

/-- An ENTER that passes its checks boards the gang at once when the section has no gang aboard, an empty list and no
claim within the exclusion radius; otherwise the gang joins the end of the section's list, and the answer gives its
place. -/
def Obligations.GangEntersOrWaits : Prop :=
  ∀ (s : State) (g : GangId) (head i task : Nat) (t : Task) (r : Section),
    s.mode = .operating → s.gang g = .ashore head → (task = 1 ∧ t = .unlash ∨ task = 2 ∧ t = .lash) →
    s.vessel ≠ none → 1 ≤ i → i ≤ s.sectionCount → s.section? i = some r →
    let enter := exec (.enter (.fields { gang := g.val, section_ := i, task := task })) s
    let free := r.gang = none ∧ r.waiting = [] ∧
      ∀ j q, s.section? j = some q → distance i j ≤ s.config.exclusionRadius → q.claim = none
    (free → enter = .next ((((s.heard .gang).changeSection i fun q => { q with gang := some g }).setGang g
      (.aboard head i t s.clock false)).send .gang (.gangAck (.granted g i)))) ∧
    (¬ free → enter = .next ((((s.heard .gang).changeSection i fun q => { q with waiting := q.waiting ++ [g] }).setGang g
      (.waiting head i t)).send .gang (.gangAck (.waiting g i (r.waiting.length + 1)))))

/-- An ENTER is refused with the first reason of R85's list that applies. UNITS, CHECK and EXIT of a gang in a state
that does not allow them are refused with GANG_STATE carrying that state, and with an id outside 0..7 with BAD_VALUE.
With the state goes the section and task of a gang WAITING or ABOARD, and nothing else of its record. -/
def Obligations.GangTelegramsAreRefused : Prop :=
  (∀ (s : State) (g : GangId), (s.gang g).shown = match s.gang g with
     | .off => .off
     | .ashore _ => .ashore
     | .waiting _ i task => .waiting i task
     | .aboard _ i task _ _ => .aboard i task) ∧
  (∀ (s : State) (i task : Nat),
     let enter : Nat → Host.Outcome State Fault Refusal :=
       fun id => exec (.enter (.fields { gang := id, section_ := i, task := task })) s
     let refused : Reason → RefuseInfo → Host.Outcome State Fault Refusal :=
       fun r info => .next ((s.heard .gang).send .gang (.refuse .enter r info))
     (∀ id, 8 ≤ id → enter id = refused .badValue .none) ∧
     ∀ g : GangId,
       (s.mode ≠ .operating → enter g.val = refused .notOperating .none) ∧
       (s.mode = .operating → (∀ n, s.gang g ≠ .ashore n) → enter g.val = refused .gangState (.gang (s.gang g).shown)) ∧
       (∀ n, s.mode = .operating → s.gang g = .ashore n →
         (task ≠ 1 → task ≠ 2 → enter g.val = refused .badValue .none) ∧
         (task = 1 ∨ task = 2 → s.vessel = none → enter g.val = refused .noVessel .none) ∧
         (task = 1 ∨ task = 2 → s.vessel ≠ none → i = 0 ∨ s.sectionCount < i →
           enter g.val = refused .sectionRange .none))) ∧
  (∀ (s : State) (n : Nat),
     let refused : RequestType → Reason → RefuseInfo → Host.Outcome State Fault Refusal :=
       fun q r i => .next ((s.heard .gang).send .gang (.refuse q r i))
     (∀ g : GangId, (∀ i, ¬ (s.gang g).aboardAt i) →
       exec (.units (.fields { gang := g.val, units := n })) s = refused .units .gangState (.gang (s.gang g).shown) ∧
       exec (.check (.fields g.val)) s = refused .check .gangState (.gang (s.gang g).shown) ∧
       ((∀ i, ¬ (s.gang g).waitingAt i) →
         exec (.exit (.fields g.val)) s = refused .exit .gangState (.gang (s.gang g).shown))) ∧
     ∀ id, 8 ≤ id →
       exec (.units (.fields { gang := id, units := n })) s = refused .units .badValue .none ∧
       exec (.check (.fields id)) s = refused .check .badValue .none ∧
       exec (.exit (.fields id)) s = refused .exit .badValue .none)

/-- UNITS of a gang aboard takes its units off the counter of its task, held at 0; SECTION_DONE when the counter went
from above 0 to 0, OVERRUN and COUNT_OVERRUN when the units exceeded it. The gang's check-in is not touched. CHECK of
a gang aboard renews its last check time and ends an overdue period, nothing else. A gang whose check-in timer has run
out, at the first clock value more than the check interval after its last check, becomes overdue once: mark, alert and
notice, still ABOARD. Before that the expiry is no event (the model's choice, log 8). -/
def Obligations.GangWorksAboard : Prop :=
  (∀ (s : State) (g : GangId) (head i n : Nat) (task : Task) (last : Time) (overdue : Bool) (r : Section),
     s.gang g = .aboard head i task last overdue → s.section? i = some r →
     let units := exec (.units (.fields { gang := g.val, units := n })) s
     let counter := match task with
       | .unlash => r.unlash
       | .lash => r.lash
     let counted := (s.heard .gang).changeSection i fun q => match task with
       | .unlash => { q with unlash := q.unlash - n }
       | .lash => { q with lash := q.lash - n }
     (1 ≤ n → n ≤ 63 → n ≤ counter →
       units = .next (counted.send .gang (.gangAck (.ok g false (decide (counter = n)) false)))) ∧
     (1 ≤ n → n ≤ 63 → counter < n →
       units = .next ((counted.raise .countOverrun (.gang g i s.clock)).send .gang
         (.gangAck (.ok g false (decide (0 < counter)) true)))) ∧
     (n = 0 ∨ 63 < n → units = .next ((s.heard .gang).send .gang (.refuse .units .badValue .none)))) ∧
  (∀ (s : State) (g : GangId) (head i : Nat) (task : Task) (last : Time) (overdue : Bool),
     s.gang g = .aboard head i task last overdue →
     exec (.check (.fields g.val)) s =
       .next (((s.heard .gang).setGang g (.aboard head i task s.clock false)).send .gang
         (.gangAck (.ok g false false false))) ∧
     (overdue = false → (s.config.checkInterval : Int) < (s.clock - last).toInt →
       exec (.checkInTimerExpiry g) s =
         .next (((s.setGang g (.aboard head i task last true)).raise .gangOverdue (.gang g i s.clock)).send .gang
           (.overdue g i task head last))) ∧
     (overdue = true ∨ (s.clock - last).toInt ≤ s.config.checkInterval → exec (.checkInTimerExpiry g) s = .next s))

/-- EXIT takes a gang ashore. From ABOARD its section has no gang and is considered for a grant; from WAITING the gang
leaves the list, and the section is considered when it stood at the head. The GANG_ACK leaves before the GRANT that
follows. -/
def Obligations.GangLeavesItsSection : Prop :=
  ∀ (s : State) (g : GangId) (head i : Nat) (task : Task),
    let done : State → Host.Outcome State Fault Refusal := fun t =>
      .next ((t.setGang g (.ashore head)).insertTelegrams .gang s.gangPort.outbox.length
        [.gangAck (.ok g false false false)])
    (∀ last overdue, s.gang g = .aboard head i task last overdue →
      exec (.exit (.fields g.val)) s =
        done (((s.heard .gang).changeSection i fun r => { r with gang := none }).consider i)) ∧
    (s.gang g = .waiting head i task →
      let left := (s.heard .gang).changeSection i fun r => { r with waiting := r.waiting.filter fun h => decide (h ≠ g) }
      exec (.exit (.fields g.val)) s =
        done (if ((s.section? i).bind fun r => r.waiting.head?) = some g then left.consider i else left))

/-! ### The vessel and its sections (chapters 1 and 4) -/

/-- OPEN_BERTH stores the vessel and creates its sections, section s at the reference plus (s-1) pitches in the
direction of the heading plus its trim, with the values of Table 1.5. It is refused with the first reason of R11's
list. CLEAR_BERTH removes the vessel, its sections and every move record when no group is in flight, no gang ABOARD or
WAITING and every stand FREE; otherwise it is refused. SECTION_SET replaces the counters, held at their range ends,
and the hatch of an unclaimed section with no gang aboard, SATURATED when a value was held; it is refused with the
first reason of R64's list. -/
def Obligations.BerthAndSectionsAreSet : Prop :=
  (∀ (s : State) (v : Vessel),
     let q : VesselRequest := {
       reference := v.reference, heading := (match v.heading with
         | .bowWest => 1
         | .bowEast => 2), pitch := v.pitch, count := v.count, trims := v.trims, rowZero := v.rowZero,
       rowPitch := v.rowPitch, rowCount := v.rowCount }
     let refused : Reason → Host.Outcome State Fault Refusal :=
       fun r => .next ((s.heard .plan).send .plan (.refuse .openBerth r .none))
     let good := v.reference ≤ 65535 ∧ 500 ≤ v.pitch ∧ v.pitch ≤ 800 ∧ 1 ≤ v.count ∧ v.count ≤ 48 ∧
       v.trims.length = v.count ∧ (∀ t ∈ v.trims, -300 ≤ t ∧ t ≤ 300) ∧ 200 ≤ v.rowZero ∧ v.rowZero ≤ 1500 ∧
       200 ≤ v.rowPitch ∧ v.rowPitch ≤ 300 ∧ 1 ≤ v.rowCount ∧ v.rowCount ≤ 25
     let place : Nat → Int := fun k => (v.reference : Int) + (match v.heading with
       | .bowWest => (k : Int) * v.pitch
       | .bowEast => -((k : Int) * v.pitch)) + v.trims.getD k 0
     let berth := exec (.openBerth (.fields q)) s
     (s.vessel = none → good → (∀ k, k < v.count → 0 ≤ place k ∧ place k ≤ 65535) →
       berth = .next ((({ s.heard .plan with
         vessel := some v
         sections := (List.range v.count).map fun k => {
           position := (place k).toNat, unlash := 0, lash := 0, tally := 0, hatch := .fitted, claim := none,
           gang := none, waiting := [] } } : State)).send .plan (.planAck .taken))) ∧
     (s.vessel ≠ none → berth = refused .berthBusy) ∧
     (s.vessel = none → ¬ good → berth = refused .badValue) ∧
     (s.vessel = none → good → ¬ (∀ k, k < v.count → 0 ≤ place k ∧ place k ≤ 65535) → berth = refused .positionRange) ∧
     ∀ x : VesselRequest, s.vessel = none → x.heading ≠ 1 → x.heading ≠ 2 →
       exec (.openBerth (.fields x)) s = refused .badValue) ∧
  (∀ (s : State),
     let idle := (∀ c, s.flight c = none) ∧ (∀ g, (s.gang g).onVessel = false) ∧ ∀ c l, s.stand c l = .free
     let clear := exec (.clearBerth (.fields ())) s
     let refused : Reason → Host.Outcome State Fault Refusal :=
       fun r => .next ((s.heard .plan).send .plan (.refuse .clearBerth r .none))
     (s.vessel ≠ none → idle → clear = .next (({ s.heard .plan with
       vessel := none, sections := [], queues := Vector.replicate 8 [] } : State).send .plan (.planAck .taken))) ∧
     (s.vessel = none → clear = refused .noVessel) ∧
     (s.vessel ≠ none → ¬ idle → clear = refused .berthBusy)) ∧
  (∀ (s : State) (q : SectionRequest),
     let set := exec (.sectionSet (.fields q)) s
     let refused : Reason → Host.Outcome State Fault Refusal :=
       fun r => .next ((s.heard .plan).send .plan (.refuse .sectionSet r .none))
     let hatchGood := q.hatch = 1 ∨ q.hatch = 2
     (s.vessel = none → set = refused .noVessel) ∧
     (s.vessel ≠ none → q.index = 0 ∨ s.sectionCount < q.index → set = refused .sectionRange) ∧
     (s.vessel ≠ none → q.index ≠ 0 → q.index ≤ s.sectionCount →
       (¬ hatchGood → set = refused .badValue) ∧
       ∀ r, s.section? q.index = some r → hatchGood →
         (r.claim ≠ none ∨ r.gang ≠ none → set = refused .sectionBusy) ∧
         (r.claim = none → r.gang = none →
           set = .next (((s.heard .plan).changeSection q.index fun x => { x with
             unlash := min 1023 q.unlash, lash := min 1023 q.lash, tally := min 255 q.tally,
             hatch := if q.hatch = 1 then .fitted else .lifted }).send .plan (.planAck (.sectionSet
               (decide (1023 < q.unlash ∨ 1023 < q.lash ∨ 255 < q.tally))))))))

/-! ### Queues (chapter 6) -/

/-- The record a request supplies is valid for a vessel when it passes the eight checks of R99; otherwise the reason is
that of the first check it fails, BAD_VALUE for the first five and the eighth, BAY_RANGE for the sixth and seventh. The
edits that are refused, each with the first reason of its rule's list, and nothing changed. -/
def Obligations.EditsAreRefusedInOrder : Prop :=
  (∀ (v : Vessel) (m : MoveRequest),
     let box := m.kind = 1 ∨ m.kind = 2
     let checks : List (Bool × Reason) := [
       (decide (1 ≤ m.tag ∧ m.tag ≤ 65535 ∧ 1 ≤ m.kind ∧ m.kind ≤ 4 ∧ (m.size = 20 ∨ m.size = 40 ∨ m.size = 45) ∧
         m.mark ≤ 2 ∧ m.height ≤ 600 ∧ m.lash ≤ 63), .badValue),
       (decide (if box then m.level = 1 ∨ m.level = 2 else m.level = 0), .badValue),
       (decide (m.row < v.rowCount), .badValue),
       (decide (if box then m.laneMask ≠ 0#8
         else m.laneMask = 0#8 ∧ m.row = 0 ∧ m.height = 0 ∧ m.mark = 0), .badValue),
       (decide (m.lash = 0 ∨ m.kind = 2 ∧ m.level = 1), .badValue),
       (decide (1 ≤ m.bay ∧ m.bay ≤ 2 * v.count - 1), .bayRange),
       (decide (if box ∧ m.size = 20 then m.bay % 2 = 1 else m.bay % 2 = 0), .bayRange),
       (decide (m.mark ≠ 0 → box ∧ m.size = 20), .badValue)]
     (∀ e, readMove v m = .error e ↔ (checks.find? fun x => !x.1).map Prod.snd = some e) ∧
     ((∃ r, readMove v m = .ok r) ↔ ∀ x ∈ checks, x.1 = true) ∧
     ∀ r, readMove v m = .ok r → r = {
       tag := m.tag, job := r.job, bay := m.bay, size := m.size, mark := r.mark, row := m.row, height := m.height,
       laneMask := m.laneMask, lash := m.lash, state := .queued } ∧
       r.job.kindCode = m.kind ∧ r.job.levelCode = m.level ∧ r.mark.code = m.mark) ∧
  (∀ (s : State) (m : MoveRequest) (tag : Nat),
     let refused : RequestType → Reason → Host.Outcome State Fault Refusal :=
       fun q r => .next ((s.heard .plan).send .plan (.refuse q r .none))
     let append : Nat → Host.Outcome State Fault Refusal := fun n => exec (.append (.fields { slot := n, move := m })) s
     let insert := exec (.insert (.fields { tag := tag, move := m })) s
     let replace := exec (.replace (.fields { tag := tag, move := m })) s
     let delete := exec (.delete (.fields tag)) s
     let absent : Nat → Prop := fun t => ∀ d y, y ∈ s.queue d → y.tag ≠ t
     (∀ n, 8 ≤ n → append n = refused .append .badValue) ∧
     (s.vessel = none → insert = refused .insert .noVessel ∧ replace = refused .replace .noVessel ∧
       ∀ c : Slot, append c.val = refused .append .noVessel) ∧
     (absent tag → delete = refused .delete .unknownTag) ∧
     (∀ c i, s.findTag tag = some (c, i, .assigned) → delete = refused .delete .locked) ∧
     ∀ v, s.vessel = some v →
       (∀ e, readMove v m = .error e → insert = refused .insert e ∧ replace = refused .replace e ∧
         ∀ c : Slot, append c.val = refused .append e) ∧
       ∀ r, readMove v m = .ok r →
         (absent tag → insert = refused .insert .unknownTag ∧ replace = refused .replace .unknownTag) ∧
         (∀ c i, s.findTag tag = some (c, i, .assigned) →
           insert = refused .insert .locked ∧ replace = refused .replace .locked) ∧
         (¬ absent m.tag → (∀ c : Slot, append c.val = refused .append .duplicateTag) ∧
           ∀ c i, s.findTag tag = some (c, i, .queued) → insert = refused .insert .duplicateTag ∧
             (m.tag ≠ tag → replace = refused .replace .duplicateTag)) ∧
         (absent m.tag →
           (∀ c : Slot, 160 ≤ (s.queue c).length → append c.val = refused .append .queueFull ∧
             ∀ i, s.findTag tag = some (c, i, .queued) → insert = refused .insert .queueFull) ∧
           ∀ c : Slot, (s.queue c).length < 160 → 640 ≤ s.poolCount → append c.val = refused .append .poolFull ∧
             ∀ i, s.findTag tag = some (c, i, .queued) → insert = refused .insert .poolFull))

/-- The edits that pass: APPEND at the tail, INSERT at the index of the before entry, DELETE of a QUEUED record,
REPLACE at the same index; no other queue and no other state changes, and the answer gives the tag, queue, index,
length and pool count. -/
def Obligations.EditsAreMade : Prop :=
  ∀ (s : State) (v : Vessel) (m : MoveRequest) (r : MoveRecord) (c : Slot), s.vessel = some v → readMove v m = .ok r →
    let made : List MoveRecord → Nat → Option Nat → Host.Outcome State Fault Refusal := fun q tag index =>
      let t := (s.heard .plan).setQueue c q
      .next (t.send .plan (.planAck (.edit tag c index q.length t.poolCount)))
    ((∀ d x, x ∈ s.queue d → x.tag ≠ m.tag) → (s.queue c).length < 160 → s.poolCount < 640 →
      exec (.append (.fields { slot := c.val, move := m })) s =
        made (s.queue c ++ [r]) m.tag (some (s.queue c).length)) ∧
    (∀ (before behind : List MoveRecord) (x : MoveRecord), s.queue c = before ++ x :: behind → x.state = .queued →
      (∀ d y, y ∈ s.queue d → y.tag = x.tag → d = c) → (∀ y ∈ before, y.tag ≠ x.tag) →
      ((∀ d y, y ∈ s.queue d → y.tag ≠ m.tag) → (s.queue c).length < 160 → s.poolCount < 640 →
        exec (.insert (.fields { tag := x.tag, move := m })) s =
          made (before ++ r :: x :: behind) m.tag (some before.length)) ∧
      exec (.delete (.fields x.tag)) s = made (before ++ behind) x.tag none ∧
      (m.tag = x.tag ∨ (∀ d y, y ∈ s.queue d → y.tag ≠ m.tag) →
        exec (.replace (.fields { tag := x.tag, move := m })) s =
          made (before ++ r :: behind) m.tag (some before.length)))

/-- The groups of a queue by the walk from its head: a matching TWIN_FIRST and TWIN_SECOND pair up, a SINGLE stands
alone, and a twin half left over is incomplete; walked together they give the queue back in order. Footprints and work
positions: an odd bay covers one section, an even bay two, a twin the two of the even bay between its bays; the work
position is the section's position or the mean of the two, rounded down. -/
def Obligations.GroupsAndFootprints : Prop :=
  ((∀ q : List MoveRecord, (groupsOf q).flatMap Group.moves = q) ∧ groupsOf [] = [] ∧
   (∀ a b q, (a.mark = .twinFirst ∧ b.mark = .twinSecond ∧ a.job = b.job ∧ a.size = 20 ∧ b.size = 20 ∧
     (a.bay = b.bay + 2 ∨ b.bay = a.bay + 2)) → groupsOf (a :: b :: q) = .twin a b :: groupsOf q) ∧
   (∀ a q, a.mark = .single → groupsOf (a :: q) = .single a :: groupsOf q) ∧
   (∀ a q, a.mark = .twinSecond → groupsOf (a :: q) = .incomplete a :: groupsOf q) ∧
   (∀ a q, a.mark = .twinFirst → (∀ b, q.head? = some b → ¬ (b.mark = .twinSecond ∧ a.job = b.job ∧ a.size = 20 ∧
     b.size = 20 ∧ (a.bay = b.bay + 2 ∨ b.bay = a.bay + 2))) → groupsOf (a :: q) = .incomplete a :: groupsOf q)) ∧
  ((∀ k, (bayFootprint (2 * k + 1)).sections = [k + 1]) ∧
   (∀ k, 1 ≤ k → (bayFootprint (2 * k)).sections = [k, k + 1]) ∧
   (∀ a b : MoveRecord, ∀ k, 1 ≤ k → (a.bay = 2 * k - 1 ∧ b.bay = 2 * k + 1 ∨ a.bay = 2 * k + 1 ∧ b.bay = 2 * k - 1) →
     (Group.twin a b).footprint = bayFootprint (2 * k) ∧
       (bayFootprint (2 * k - 1)).sections ++ (bayFootprint (2 * k + 1)).sections = (bayFootprint (2 * k)).sections) ∧
   ∀ (s : State) (k : Nat) (r q : Section), s.section? k = some r → s.section? (k + 1) = some q →
     s.workPosition (.one k) = r.position ∧ s.workPosition (.two k) = (r.position + q.position) / 2)

/-- READ_QUEUE sets the cursor; READ_NEXT answers the record under it with its group and advances, or END at the queue's
end, where the cursor stays. That READ_NEXT is one telegram is the model's reading (log 28). -/
def Obligations.QueuesAreRead : Prop :=
  (∀ (s : State) (c : Slot) (i : Nat), i < 160 →
    exec (.readQueue (.fields { slot := c.val, index := i })) s =
      .next (({ s.heard .plan with cursor := { slot := c, index := i } } : State).send .plan (.planAck (.queue c i
        (s.queue c).length ((s.queue c).filter fun m => decide (m.state = .assigned)).length
        (groupsOf (s.queue c)).length s.poolCount)))) ∧
  (∀ (s : State) (n i : Nat), 8 ≤ n ∨ 160 ≤ i → exec (.readQueue (.fields { slot := n, index := i })) s =
    .next ((s.heard .plan).send .plan (.refuse .readQueue .badValue .none))) ∧
  (∀ (s : State) (before behind : List Group) (g : Group) (k : Nat) (m : MoveRecord),
    groupsOf (s.queue s.cursor.slot) = before ++ g :: behind → g.moves[k]? = some m →
    s.cursor.index = (before.flatMap Group.moves).length + k →
    exec (.readNext (.fields ())) s =
      .next (({ s.heard .plan with cursor := { s.cursor with index := s.cursor.index + 1 } } : State).send .plan
        (.readReply (.move s.cursor.slot s.cursor.index m (before.length + 1) g.standing) none))) ∧
  ∀ s : State, (s.queue s.cursor.slot).length ≤ s.cursor.index → exec (.readNext (.fields ())) s =
    .next ((s.heard .plan).send .plan
      (.readReply (.queueEnd s.cursor.slot (s.queue s.cursor.slot).length) none))

/-! ### Set-up (chapter 10) -/

/-- SETUP and OPERATE: repeated in their own mode they change nothing; SETUP is refused while a group is in flight or a
gang is ABOARD or WAITING and otherwise clears every goal and empty mark; OPERATE checks the limits, then the park
positions of the fitted slots, then the lines, and its refusal names what failed first: the limits, the lowest slot whose
park position is bad, or the lowest bad line; either change of mode re-evaluates every fitted crane. That a repeated SETUP or OPERATE is answered with the
mode is the model's reading (log 14). -/
def Obligations.ModesChange : Prop :=
  ∀ s : State,
    let all := all8.filter s.fitted
    let busy := (∃ c f, s.flight c = some f) ∨ ∃ g, (s.gang g).onVessel = true
    let setup := exec (.setup (.fields ())) s
    let operate := exec (.operate (.fields ())) s
    let limits := s.config.westLimit < s.config.eastLimit
    let parkGood : Slot → Prop := fun c => s.fitted c = true → s.config.westLimit ≤ entry s.config.park c ∧
      entry s.config.park c ≤ s.config.eastLimit ∧
      ∀ b, s.nearestWest c b → entry s.config.park b < entry s.config.park c
    let lineGood : LineNo → Prop := fun k => entry s.config.sensorModes k = .disabled ∨
      s.fitted (lineWest k) = true ∧ s.fitted (lineEast k) = true
    let refused : OperateFault → Host.Outcome State Fault Refusal :=
      fun fault => .next ((s.heard .plan).send .plan (.refuse .operate .badValue (.operate fault)))
    (s.mode = .setup → setup = .next ((s.heard .plan).send .plan (.planAck (.mode .setup)))) ∧
    (s.mode = .operating → busy → setup = .next ((s.heard .plan).send .plan (.refuse .setup .busy .none))) ∧
    (s.mode = .operating → ¬ busy → ∃ cleared : Vector SpanRecord 8,
      (∀ c, entry cleared c = { s.spanOf c with goal := none, emptyMark := false }) ∧
      setup = .next ((({ s.heard .plan with mode := .setup, span := cleared } : State).reevaluate all).send .plan
        (.planAck (.mode .setup)))) ∧
    (s.mode = .operating → operate = .next ((s.heard .plan).send .plan (.planAck (.mode .operating)))) ∧
    (s.mode = .setup → limits → (∀ c, parkGood c) → (∀ k, lineGood k) →
      operate = .next ((({ s.heard .plan with mode := .operating } : State).reevaluate all).send .plan
        (.planAck (.mode .operating)))) ∧
    (s.mode = .setup → ¬ limits → operate = refused .limits) ∧
    (∀ c, s.mode = .setup → limits → ¬ parkGood c → (∀ d, d < c → parkGood d) → operate = refused (.park c)) ∧
    (∀ k, s.mode = .setup → limits → (∀ c, parkGood c) → ¬ lineGood k → (∀ j, j < k → lineGood j) →
      operate = refused (.line k))

/-- An accepted CONFIG of 1 to 32 good items: every item is stored in turn, slots made unfitted lose their records,
lines whose mode changes or that lose a slot lose their latch, the halt follows a changed polarity, the cranes are
re-evaluated where an item of the Span Computer changed, ATTN follows the enable mask; the answer carries each item
with the value now stored. Crane positions, sections, queues, groups, stands and the log are untouched. Which cranes
are re-evaluated is the model's reading (log 16). Of the alerts, a flag that is set keeps its detail, and a clear one is
set by what begins at the CONFIG alone: QUAY_HALT by the halt; SENSOR_TRIP by a trip, a line in a changed mode being
taken up anew; SENSOR_DISAGREE by such a trip whose pair's gap is at least the near distance; WINDOW_EMPTY by an empty
mark newly set (only where the halt did not agree with its line before); GANG_OVERDUE by the lowest gang that a changed check interval makes overdue. Of several lines or cranes
the detail kept is that of one of them (log 11). Each gang so overdue is told on the gang port, lowest id first. -/
def Obligations.ConfigIsStored : Prop :=
  ∀ (s : State) (items : List ConfigItem), 1 ≤ items.length → items.length ≤ 32 →
    (∀ i ∈ items, configNamed i = true ∧ configInRange i = true ∧ (s.mode = .operating → configSetupOnly i = false)) →
    let new := items.foldl configStore s.config
    ∃ t, exec (.config (.fields items)) s = .next (t.send .plan (.planAck (.config (items.map (configStored new))))) ∧
      t = { s.heard .plan with
        config := t.config, cranes := t.cranes, span := t.span, watches := t.watches, latches := t.latches,
        halted := t.halted, gangs := t.gangs, alerts := t.alerts, attn := t.attn, gangPort := t.gangPort } ∧
      t.config = new ∧
      (∀ c, t.crane c = if s.fitted c = true ∧ new.isFitted c = false then CraneRecord.reset else s.crane c) ∧
      (∀ k, entry t.latches k =
        if entry s.config.sensorModes k ≠ entry new.sensorModes k ∨
          (s.fitted (lineWest k) = true ∧ new.isFitted (lineWest k) = false) ∨
          (s.fitted (lineEast k) = true ∧ new.isFitted (lineEast k) = false)
        then false else entry s.latches k) ∧
      t.halted = decide (s.haltLine = new.haltPolarity) ∧
      (∀ a x, s.alert a = some x → t.alert a = some x) ∧
      (∀ a, a ≠ .quayHalt → a ≠ .sensorTrip → a ≠ .sensorDisagree → a ≠ .windowEmpty → a ≠ .gangOverdue →
        t.alert a = s.alert a) ∧
      (s.alert .quayHalt = none →
        t.alert .quayHalt = if s.halted = false ∧ t.halted = true then some (.halt s.clock) else none) ∧
      (let begun : LineNo → Prop := fun k => t.tripped k = true ∧
         (s.tripped k = false ∨ entry s.config.sensorModes k ≠ entry new.sensorModes k)
       let gap : LineNo → Int := fun k => t.gap (lineWest k) (lineEast k)
       let wide : LineNo → Prop := fun k => begun k ∧ (new.nearDistance : Int) ≤ gap k
       let newly : Slot → Prop := fun c => (t.spanOf c).emptyMark = true ∧ (s.spanOf c).emptyMark = false
       let late : GangId → Prop := fun g => ∃ head i task last,
         s.gang g = .aboard head i task last false ∧ t.gang g = .aboard head i task last true
       (s.alert .sensorTrip = none → ((∀ k, ¬ begun k) → t.alert .sensorTrip = none) ∧
         ∀ k, begun k → ∃ j, begun j ∧ t.alert .sensorTrip = some (.line j s.clock)) ∧
       (s.alert .sensorDisagree = none → ((∀ k, ¬ wide k) → t.alert .sensorDisagree = none) ∧
         ∀ k, wide k → ∃ j, wide j ∧ t.alert .sensorDisagree = some (.gap j (gap j) s.clock)) ∧
       (s.alert .windowEmpty = none → ((∀ c, ¬ newly c) → t.alert .windowEmpty = none) ∧
         ∀ c, newly c → ∃ d, newly d ∧ t.alert .windowEmpty = some (.crane d s.clock)) ∧
       (s.alert .gangOverdue = none → ((∀ g, ¬ late g) → t.alert .gangOverdue = none) ∧
         ∀ g head i task last, s.gang g = .aboard head i task last false → late g → (∀ h, h < g → ¬ late h) →
           t.alert .gangOverdue = some (.gang g i s.clock))) ∧
      (let notices : List Telegram := all8.flatMap fun g => match s.gang g, t.gang g with
         | .aboard head i task last false, .aboard _ _ _ _ true => [.overdue g i task head last]
         | _, _ => []
       t.gangPort = { s.gangPort with
         outbox := if s.gangPort.linkUp then s.gangPort.outbox ++ notices else s.gangPort.outbox }) ∧
      t.attn = attnLevel t.alerts new.alertMask ∧
      (∀ g, t.gang g = match s.gang g with
        | .aboard head i task last overdue => .aboard head i task last (overdue || decide
            (s.config.checkInterval ≠ new.checkInterval ∧ (new.checkInterval : Int) < (s.clock - last).toInt))
        | other => other) ∧
      (SpanSettled s → SpanSettled t) ∧
      (s.mode = .operating → t.cranes = s.cranes ∧ t.latches = s.latches ∧
        (s.halted = decide (s.haltLine = s.config.haltPolarity) → SpanSettled s → t.span = s.span ∧ t.watches = s.watches))

/-- The items of a CONFIG: the range of each and whether it is settable in SETUP only (Tables 10.2 and 10.3), the slot or
line number it takes, and what storing it does: the item takes the value, of a per-slot or per-line item only the entry of
its own slot or line, and every other item of the configuration stands; the reply shows the value now stored. A CONFIG is
refused at the first failure, and no item is stored: an empty or too long list and a bad name, slot or line before the
mode, the mode before the values (that order over the whole list is the model's reading of R171, log 15). How a name of
neither table is held and named in the refusal is the model's choice (log 31). -/
def Obligations.ConfigIsCheckedItemByItem : Prop :=
  (let setupOnly : ConfigItem → Prop := fun i => configSetupOnly i = true
   let range : (Nat → ConfigItem) → Nat → Nat → Prop := fun item lo hi =>
     ∀ v, configInRange (item v) = true ↔ lo ≤ v ∧ v ≤ hi
   range .fitted 0 255 ∧ (∀ c, range (.park c) 0 65535) ∧ range .westLimit 0 65535 ∧ range .eastLimit 0 65535 ∧
   range .clearance 100 2000 ∧ range .startMargin 0 500 ∧ range .nearDistance 500 5000 ∧ range .hysteresis 50 1000 ∧
   range .creepSpeed 5 60 ∧ range .bayTolerance 5 100 ∧ range .arriveTolerance 5 100 ∧ range .exclusionRadius 0 2 ∧
   range .reportLimit 50 1000 ∧ range .linkSilence 200 5000 ∧
   (∀ v, configInRange (.joinTimer v) = true ↔ v = 50 ∨ v = 200 ∨ v = 500 ∨ v = 1000) ∧
   (∀ k m, configInRange (.sensorMode k m) = true ↔ m ≠ none) ∧
   (∀ p, configInRange (.haltPolarity p) = true ↔ p ≠ none) ∧
   (∀ d, configInRange (.permitDrive d) = true ↔ d ≠ none) ∧
   range .grace 100 3000 ∧ range .maxRecalls 0 7 ∧ range .checkInterval 600 18000 ∧
   (∀ c m, configInRange (.takeMode c m) = true ↔ m ≠ none) ∧ range .lookahead 1 8 ∧ range .alertMask 0 4095 ∧
   (∀ i : ConfigItem, setupOnly i ↔ match i with
     | .fitted _ | .park _ _ | .westLimit _ | .eastLimit _ | .clearance _ | .startMargin _ | .nearDistance _
     | .hysteresis _ | .creepSpeed _ | .bayTolerance _ | .arriveTolerance _ | .exclusionRadius _ | .reportLimit _
     | .linkSilence _ | .joinTimer _ | .sensorMode _ _ | .haltPolarity _ | .permitDrive _ => True
     | .grace _ | .maxRecalls _ | .checkInterval _ | .takeMode _ _ | .lookahead _ | .alertMask _ | .unknown _ => False) ∧
   ∀ i : ConfigItem, configNamed i = true ↔ match i with
     | .unknown _ => False
     | .park c _ | .takeMode c _ => c < 8
     | .sensorMode k _ => k < 7
     | _ => True) ∧
  ((∀ (cfg : ConfigSet) (v : Nat),
     configStore cfg (.fitted v) = { cfg with fitted := BitVec.ofNat 8 v } ∧
     configStore cfg (.westLimit v) = { cfg with westLimit := v } ∧
     configStore cfg (.eastLimit v) = { cfg with eastLimit := v } ∧
     configStore cfg (.clearance v) = { cfg with clearance := v } ∧
     configStore cfg (.startMargin v) = { cfg with startMargin := v } ∧
     configStore cfg (.nearDistance v) = { cfg with nearDistance := v } ∧
     configStore cfg (.hysteresis v) = { cfg with hysteresis := v } ∧
     configStore cfg (.creepSpeed v) = { cfg with creepSpeed := v } ∧
     configStore cfg (.bayTolerance v) = { cfg with bayTolerance := v } ∧
     configStore cfg (.arriveTolerance v) = { cfg with arriveTolerance := v } ∧
     configStore cfg (.exclusionRadius v) = { cfg with exclusionRadius := v } ∧
     configStore cfg (.reportLimit v) = { cfg with reportLimit := v } ∧
     configStore cfg (.linkSilence v) = { cfg with linkSilence := v } ∧
     configStore cfg (.joinTimer v) = { cfg with joinTimer := v } ∧
     configStore cfg (.grace v) = { cfg with grace := v } ∧
     configStore cfg (.maxRecalls v) = { cfg with maxRecalls := v } ∧
     configStore cfg (.checkInterval v) = { cfg with checkInterval := v } ∧
     configStore cfg (.lookahead v) = { cfg with lookahead := v } ∧
     configStore cfg (.alertMask v) = { cfg with alertMask := BitVec.ofNat 12 v }) ∧
   (∀ (cfg : ConfigSet) (p : Level), configStore cfg (.haltPolarity (some p)) = { cfg with haltPolarity := p }) ∧
   (∀ (cfg : ConfigSet) (d : PermitDrive), configStore cfg (.permitDrive (some d)) = { cfg with permitDrive := d }) ∧
   (∀ (cfg : ConfigSet) (c : Slot) (v : Nat), ∃ parks, configStore cfg (.park c.val v) = { cfg with park := parks } ∧
     ∀ d, entry parks d = if d = c then v else entry cfg.park d) ∧
   (∀ (cfg : ConfigSet) (k : LineNo) (m : SensorMode), ∃ modes,
     configStore cfg (.sensorMode k.val (some m)) = { cfg with sensorModes := modes } ∧
     ∀ j, entry modes j = if j = k then m else entry cfg.sensorModes j) ∧
   (∀ (cfg : ConfigSet) (c : Slot) (m : TakeMode), ∃ modes,
     configStore cfg (.takeMode c.val (some m)) = { cfg with takeModes := modes } ∧
     ∀ d, entry modes d = if d = c then m else entry cfg.takeModes d) ∧
   (∀ (cfg : ConfigSet) (i : ConfigItem), configInRange i = true → configNamed i = true →
     configStored (configStore cfg i) i = i)) ∧
  (∀ (s : State) (items : List ConfigItem),
     let config := exec (.config (.fields items)) s
     let refused : Reason → RefuseInfo → Host.Outcome State Fault Refusal :=
       fun r info => .next ((s.heard .plan).send .plan (.refuse .config r info))
     (items.length = 0 ∨ 32 < items.length → config = refused .badValue .none) ∧
     (1 ≤ items.length → items.length ≤ 32 → ∀ before i behind, items = before ++ i :: behind →
       ((∀ x ∈ before, configNamed x = true) → configNamed i = false → config = refused .badValue (.item i)) ∧
       ((∀ x ∈ items, configNamed x = true) →
         (s.mode = .operating → (∀ x ∈ before, configSetupOnly x = false) → configSetupOnly i = true →
           config = refused .notInSetup (.item i)) ∧
         ((s.mode = .setup ∨ ∀ x ∈ items, configSetupOnly x = false) → (∀ x ∈ before, configInRange x = true) →
           configInRange i = false → config = refused .badValue (.item i)))))

/-- OVERRIDE_GEOMETRY in SETUP sets a complete set of fields in range, or removes the override; the geometry in force
changes at once, the cranes are re-evaluated and the crane's request attempted. Otherwise it is refused in the order
of R173. A set of fields is in range where each field lies in its range of Table 2.2, both ends included. -/
def Obligations.OverrideIsStored : Prop :=
  (∀ g : Geometry, geometryInRange g = true ↔
    (300 ≤ g.rail.westExtent ∧ g.rail.westExtent ≤ 2500) ∧ (300 ≤ g.rail.eastExtent ∧ g.rail.eastExtent ≤ 2500) ∧
    (10 ≤ g.rail.deceleration ∧ g.rail.deceleration ≤ 200) ∧ g.rail.reactionTime ≤ 2000 ∧
    (20 ≤ g.rail.maxSpeed ∧ g.rail.maxSpeed ≤ 255) ∧ (50 ≤ g.hoist.hoistSpeed ∧ g.hoist.hoistSpeed ≤ 300) ∧
    (100 ≤ g.hoist.trolleySpeed ∧ g.hoist.trolleySpeed ≤ 600) ∧ (10 ≤ g.hoist.lockTime ∧ g.hoist.lockTime ≤ 200) ∧
    ∀ l, entry g.lanes.laneOffsets l ≤ 6000) ∧
  ∀ (s : State) (c : Slot) (ask : OverrideAsk),
    let asked := exec (.overrideGeometry (.fields { slot := c.val, ask := ask })) s
    let kept := s.heard .plan
    let refused : Reason → Host.Outcome State Fault Refusal :=
      fun r => .next (kept.send .plan (.refuse .overrideGeometry r .none))
    let stored : Option Geometry → State := fun g =>
      (({ kept with overrides := put s.overrides c g } : State).reevaluate (s.concern c)).attempt c
    let acked : State → Option GeometrySource → Host.Outcome State Fault Refusal := fun t source =>
      .next (t.send .plan (.planAck (.geometry c (t.geometry c) source)))
    let plain : Option GeometrySource := if (s.crane c).declared = none then none else some .crane
    (∀ g, s.mode = .setup → ask = .fields g → geometryInRange g = true →
      asked = acked (stored (some g)) (some .plan) ∧ (stored (some g)).geometry c = g) ∧
    (s.mode = .setup → ask = .remove → s.override c ≠ none → asked = acked (stored none) plain) ∧
    (s.mode = .setup → ask = .remove → s.override c = none → asked = acked kept plain) ∧
    (s.mode = .operating → asked = refused .notInSetup) ∧
    (s.mode = .setup → ask = .incomplete ∨ (∃ g, ask = .fields g ∧ geometryInRange g = false) →
      asked = refused .badValue) ∧
    ∀ n, 8 ≤ n → exec (.overrideGeometry (.fields { slot := n, ask := ask })) s = refused .badValue

/-- The five kinds of STATUS are answered from the state as it stands, and change nothing: the fitted cranes in slot
order, the sections, the stands with the trucks, the gangs, the mode. How many telegrams carry one snapshot is open
(log 12). What is shown of a crane: slot state, position used with the mark that it has never reported, velocity, report
time, the bounds of its window held into 0..65535, goal, permit lines, empty mark, and of each side the watch state and
gap of its pair and its trip. Of a gang: its record, its place in the waiting list of its section, the time since its
last check. Of a slot's geometry: that in force, its source, the override. Of a stand: the fields of Table 8.1 present
in its state. -/
def Obligations.StatusChangesNothing : Prop :=
  (∀ s : State, (s.heard .plan).planPort.linkUp = true ∧
    let kept := s.heard .plan
    let shown : Snapshot → Host.Outcome State Fault Refusal := fun snap =>
      .next (kept.setPort .plan { kept.planPort with outbox := s.planPort.outbox ++ statusReply snap })
    exec (.statusSpan (.fields ())) s = shown (.span ((all8.filter s.fitted).map s.craneStatus) s.halted) ∧
    exec (.statusSections (.fields ())) s = shown (.sections s.vessel s.sections) ∧
    exec (.statusStands (.fields ())) s =
      shown (.stands s.laneMask s.lanePort.linkUp s.pointers s.callCounter
        (table8 fun c => table8 fun l => match s.stand c l with
          | .free => .free
          | .called k due deadline _ => .called k due deadline
          | .occupied k truck => .occupied k truck
          | .released number truck => .released number truck)
        (all8.filterMap fun c => (s.flight c).map fun f => {
          slot := c, truck := f.truck, lane := f.lane, truckId := f.truckId, recallCount := f.recallCount })) ∧
    exec (.statusGangs (.fields ())) s = shown (.gangs (table8 s.gangStatus)) ∧
    exec (.statusMode (.fields ())) s = shown (.mode s.mode s.config (table8 s.geometryStatus)
      (table8 fun c => (entry s.cranePorts c).linkUp) s.lanePort.linkUp s.gangPort.linkUp true s.halted s.clock) ∧
    ∀ snap, statusReply snap ≠ [] ∧ ∀ t ∈ statusReply snap, ∃ part, t = .readReply snap part) ∧
  (∀ (s : State) (c : Slot),
     let r := s.craneStatus c
     r.slot = c ∧
     r.slotState = (match (s.crane c).slotState with
       | .down => .down
       | .joining _ => .joining
       | .stale => .stale
       | .active => .active) ∧
     (∀ p, (s.crane c).lastPosition = some p → r.position = p ∧ r.neverReported = false) ∧
     ((s.crane c).lastPosition = none → r.position = entry s.config.park c ∧ r.neverReported = true) ∧
     r.velocity = (s.crane c).lastVelocity ∧ r.reportTime = (s.crane c).lastReportTime ∧
     (∀ x, (s.spanOf c).window = some x →
       (r.lo : Int) = max 0 (min 65535 x.lo) ∧ (r.hi : Int) = max 0 (min 65535 x.hi) ∧
       (r.saturated = true ↔ x.lo < 0 ∨ 65535 < x.lo ∨ x.hi < 0 ∨ 65535 < x.hi)) ∧
     r.goal = (s.spanOf c).goal ∧ r.eastPermit = (s.spanOf c).eastPermit ∧ r.westPermit = (s.spanOf c).westPermit ∧
     (∀ d, s.nearestEast c d → r.east.watch = s.watch c ∧ r.east.gap = some (s.gap c d)) ∧
     (∀ b, s.nearestWest c b → r.west.watch = s.watch b ∧ r.west.gap = some (s.gap b c)) ∧
     ((∀ d, ¬ s.nearestEast c d) → r.east.watch = none ∧ r.east.gap = none) ∧
     ((∀ b, ¬ s.nearestWest c b) → r.west.watch = none ∧ r.west.gap = none) ∧
     (r.east.tripped = true ↔ ∃ k : LineNo, k.val = c.val ∧ s.tripped k = true) ∧
     (r.west.tripped = true ↔ ∃ k : LineNo, k.val + 1 = c.val ∧ s.tripped k = true) ∧
     r.emptyMark = (s.spanOf c).emptyMark) ∧
  (∀ (s : State) (g : GangId),
     let r := s.gangStatus g
     r.gang = s.gang g ∧
     (∀ head i task x before behind, s.gang g = .waiting head i task → s.section? i = some x →
       x.waiting = before ++ g :: behind → g ∉ before → r.place = some (before.length + 1)) ∧
     ((∀ i, ¬ (s.gang g).waitingAt i) → r.place = none) ∧
     (∀ head i task last overdue, s.gang g = .aboard head i task last overdue →
       r.sinceCheck = some (s.clock - last).toInt) ∧
     ((∀ i, ¬ (s.gang g).aboardAt i) → r.sinceCheck = none)) ∧
  ∀ (s : State) (c : Slot), s.geometryStatus c = {
    inForce := ((s.override c).or (s.crane c).declared).getD defaultGeometry
    source := if s.override c ≠ none then some .plan else if (s.crane c).declared ≠ none then some .crane else none
    override := s.override c }

/-! ### Links and time (chapters 1 and 11) -/

/-- The Quay Clock advances by one and continues at 0 after 2^32-1; a deadline is reached when the clock less the
deadline is zero or positive as a signed 32-bit difference. TELEGRAM_SENT takes the oldest waiting telegram off a
port that is link-up; an inter-byte gap and a stop-bit error return the receiver to HUNT; a byte that completes no
frame moves the receive state by R176's table; none changes anything else. A stop-bit error in HUNT is the model's
reading (log 19). -/
def Obligations.TimeAndLinkEvents : Prop :=
  ((∀ s : State, ∃ t, exec .quayClockAdvance s = .next t ∧ t = { s with clock := t.clock } ∧
     t.clock.toNat = if s.clock.toNat = 4294967295 then 0 else s.clock.toNat + 1) ∧
   ∀ now deadline : Time, reached now deadline = true ↔
     (now - deadline = 0#32 ∨ 0 < (now - deadline).toInt)) ∧
  (∀ (s : State) (p : PortId),
     let receiving : Receiver → Host.Outcome State Fault Refusal := fun r => .next (s.setPort p { s.port p with rx := r })
     (∀ t rest, (s.port p).linkUp = true → (s.port p).outbox = t :: rest →
       exec (.telegramSent p) s = .next (s.setPort p { s.port p with outbox := rest })) ∧
     ((s.port p).linkUp = false ∨ (s.port p).outbox = [] → exec (.telegramSent p) s = .next s) ∧
     exec (.interByteGapExpiry p) s = receiving .hunt ∧
     (∀ b, exec (.byteArrival p b true) s = receiving .hunt) ∧
     (∀ b, (s.port p).rx = .hunt → exec (.byteArrival p b false) s =
       receiving (if b = 0xA5#8 then .length else .hunt)) ∧
     (∀ b, (s.port p).rx = .length → exec (.byteArrival p b false) s =
       receiving (if 1 ≤ b.toNat ∧ b.toNat ≤ 200 then .type b.toNat else .hunt)) ∧
     (∀ b len, (s.port p).rx = .type len → 1 ≤ len → exec (.byteArrival p b false) s = receiving (.body len b [])) ∧
     (∀ b len ty bytes, (s.port p).rx = .body len ty bytes → exec (.byteArrival p b false) s =
       receiving (if bytes.length + 1 < len then .body len ty (bytes ++ [b]) else .check len ty (bytes ++ [b]) none)) ∧
     (∀ b len ty bytes, (s.port p).rx = .check len ty bytes none → exec (.byteArrival p b false) s =
       receiving (.check len ty bytes (some b))) ∧
     (∀ b high len ty bytes, (s.port p).rx = .check len ty bytes (some high) → frameCrc len ty bytes ≠ high ++ b →
       exec (.byteArrival p b false) s = receiving .hunt))

/-- A frame holds the start byte, the length, the type, the body and the CRC, high byte first; it takes 6 to 205
bytes, and the CRC of the nine bytes "123456789" is 0x29B1. A frame with a wrong CRC, and a frame of good CRC whose
type is none the master sends on that port, are discarded: after their last byte the state is as before their first.
What the part sends: the type of each telegram, the reason codes, the results of JOIN_ACK and the values of Table 11.4;
and the bytes of WINDOW, MOVE, CALL, a completion record and the reply to LOG_READ, field by field, fields of two and
four bytes high byte first, an absent lane as 0xFF and an absent goal or truck id as 0. -/
def Obligations.FramesGoodAndBad : Prop :=
  (crcOf [0x31#8, 0x32#8, 0x33#8, 0x34#8, 0x35#8, 0x36#8, 0x37#8, 0x38#8, 0x39#8] = 0x29B1#16 ∧
   ∀ (ty : Byte) (body : List Byte), 1 ≤ body.length → body.length ≤ 200 →
     6 ≤ (frame ty body).length ∧ (frame ty body).length ≤ 205 ∧
     ∃ high low : Byte, high ++ low = crcOf (BitVec.ofNat 8 body.length :: ty :: body) ∧
       frame ty body = [0xA5#8, BitVec.ofNat 8 body.length, ty] ++ body ++ [high, low]) ∧
  (∀ (s : State) (p : PortId) (ty : Byte) (body : List Byte), (s.port p).rx = .hunt → 1 ≤ body.length →
     body.length ≤ 200 →
     (∀ high low : Byte, high ++ low ≠ frameCrc body.length ty body →
       runAll (([0xA5#8, BitVec.ofNat 8 body.length, ty] ++ body ++ [high, low]).map fun b => .byteArrival p b false) s =
         .next s) ∧
     (requestOf p ty = none → runAll ((frame ty body).map fun b => .byteArrival p b false) s = .next s)) ∧
  ((∀ t : Telegram, t.code = match t with
      | .joinAck _ _ => 0x30#8
      | .window _ => 0x31#8
      | .travelGrant _ _ _ _ _ => 0x32#8
      | .move _ => 0x33#8
      | .phaseAck _ => 0x34#8
      | .standReady _ _ _ => 0x38#8
      | .standLost _ _ _ => 0x39#8
      | .refuse _ _ _ => 0x3F#8
      | .laneAck _ => 0x50#8
      | .call _ => 0x51#8
      | .cancel _ _ _ => 0x52#8
      | .depart _ _ _ _ => 0x53#8
      | .gangAck _ => 0x70#8
      | .grant _ _ => 0x71#8
      | .overdue _ _ _ _ _ => 0x72#8
      | .planAck _ => 0xA0#8
      | .readReply _ _ => 0xA1#8) ∧
   ([.notOperating, .notInSetup, .halted, .notActive, .slotMismatch, .pageOrder, .pageRange, .moveInFlight, .noMove,
     .logBacklog, .groupIncomplete, .notAtBay, .sectionClaimed, .gangAboard, .gangWaiting, .lashed, .hatchFitted,
     .hatchLifted, .deckOccupied, .noTruck, .phaseOrder, .loadAboard, .notAllowed, .windowEmpty, .callStale, .standState,
     .gangState, .sectionBusy, .sectionRange, .noVessel, .berthBusy, .positionRange, .bayRange, .duplicateTag,
     .unknownTag, .queueFull, .poolFull, .locked, .busy, .badValue] : List Reason).map Reason.code =
       (List.range 40).map (fun n => n + 1) ∧
   ([.ok, .slotMismatch, .pageOrder, .pageRange, .notAllowed, .overridden] : List JoinResult).map JoinResult.code =
     [0, 5, 6, 7, 23, 41] ∧
   (∀ l, [Job.discharge l, .load l, .hatchOff, .hatchOn].map Job.kindCode = [1, 2, 3, 4]) ∧
   [Job.hatchOff, .hatchOn, .discharge .deck, .load .deck, .discharge .hold, .load .hold].map Job.levelCode =
     [0, 0, 1, 1, 2, 2] ∧
   [GroupMark.single, .twinFirst, .twinSecond].map GroupMark.code = [0, 1, 2] ∧
   [Phase.assigned, .locked, .aloft].map Phase.code = [1, 2, 3] ∧
   [none, some GroupOutcome.landed, some .abandoned, some .setBack].map outcomeCode = [0, 1, 2, 3] ∧
   [TruckState.notNeeded, .pending, .called, .present, .departed, .failed].map TruckState.code = [0, 1, 2, 3, 4, 5] ∧
   [Direction.deliver, .receive].map Direction.code = [1, 2] ∧ [MoveResult.done, .forced].map MoveResult.code = [1, 2] ∧
   [Task.unlash, .lash].map Task.code = [1, 2] ∧ [Hatch.fitted, .lifted].map Hatch.code = [1, 2] ∧
   [Heading.bowWest, .bowEast].map Heading.code = [1, 2] ∧ [LostCause.late, .gone].map LostCause.code = [1, 2] ∧
   [Alert.craneLost, .craneDrift, .sensorTrip, .sensorDisagree, .quayHalt, .truckLate, .truckGone, .gangOverdue,
     .countOverrun, .tallyLow, .logBacklog, .windowEmpty].map (fun a => a.bit.val) = List.range 12) ∧
  (let pair : Byte → Byte → Nat → Prop := fun high low n => high.toNat * 256 + low.toNat = n
   let laneByte : Byte → Option Lane → Prop := fun b l =>
     match l with
     | some l => b.toNat = l.val
     | none => b = 0xFF#8
   (∀ w : WindowReply, w.lo ≤ 65535 → w.hi ≤ 65535 → (∀ g, w.goal = some g → g ≤ 65535) →
     ∃ l1 l0 h1 h0 flags marks g1 g0,
       (Telegram.window w).frame? = some (frame 0x31#8 [l1, l0, h1, h0, flags, marks, g1, g0]) ∧
       pair l1 l0 w.lo ∧ pair h1 h0 w.hi ∧ pair g1 g0 (w.goal.getD 0) ∧
       (List.range 8).map (fun i => flags.getLsbD i) =
         [w.eastPermit, w.westPermit, w.eastNear, w.westNear, w.eastUncertain, w.westUncertain, w.goal.isSome, false] ∧
       (List.range 8).map (fun i => marks.getLsbD i) =
         [w.saturated, w.clamped, false, false, false, false, false, false]) ∧
   (∀ m : MoveRecord, m.tag ≤ 65535 → m.bay ≤ 255 → m.size ≤ 255 → m.row ≤ 255 → m.height ≤ 65535 → m.lash ≤ 255 →
     ∃ t1 t0 kind level bay size mark row h1 h0 lash,
       moveBytes m = [t1, t0, kind, level, bay, size, mark, row, h1, h0, m.laneMask, lash] ∧
       pair t1 t0 m.tag ∧ kind.toNat = m.job.kindCode ∧ level.toNat = m.job.levelCode ∧ bay.toNat = m.bay ∧
       size.toNat = m.size ∧ mark.toNat = m.mark.code ∧ row.toNat = m.row ∧ pair h1 h0 m.height ∧ lash.toNat = m.lash) ∧
   (∀ m : MoveReply, m.recallCount ≤ 255 → m.moves.length ≤ 255 → m.workPosition ≤ 65535 →
     (∀ i ∈ m.footprint.sections, i ≤ 255) →
     ∃ slot phase truck lane recalls count t3 t2 t1 t0 f1 f2 w1 w0,
       (Telegram.move m).frame? = some (frame 0x33#8 ([slot, phase, truck, lane, recalls, count, t3, t2, t1, t0, f1, f2,
         w1, w0] ++ m.moves.flatMap moveBytes)) ∧
       slot.toNat = m.slot.val ∧ phase.toNat = m.phase.code ∧ truck.toNat = m.truck.code ∧ laneByte lane m.lane ∧
       recalls.toNat = m.recallCount ∧ count.toNat = m.moves.length ∧ t3 ++ t2 ++ t1 ++ t0 = m.takenTime ∧
       (m.footprint.sections = [f1.toNat] ∧ f2 = 0#8 ∨ m.footprint.sections = [f1.toNat, f2.toNat]) ∧
       pair w1 w0 m.workPosition) ∧
   (∀ k : CallNotice, k.number ≤ 65535 → k.railPosition ≤ 65535 → k.size ≤ 255 → (∀ n ∈ k.tags, n ≤ 65535) →
     (∃ a, k.tags = [a]) ∨ (∃ a b, k.tags = [a, b]) →
     ∃ n1 n0 slot lane p1 p0 t3 t2 t1 t0 direction size marks count tags,
       (Telegram.call k).frame? = some (frame 0x51#8 ([n1, n0, slot, lane, p1, p0, t3, t2, t1, t0, direction, size, marks,
         count] ++ tags)) ∧
       pair n1 n0 k.number ∧ slot.toNat = k.slot.val ∧ lane.toNat = k.lane.val ∧ pair p1 p0 k.railPosition ∧
       t3 ++ t2 ++ t1 ++ t0 = k.due ∧ direction.toNat = k.direction.code ∧ size.toNat = k.size ∧
       marks = (if k.saturated then 1#8 else 0#8) ∧ count.toNat = k.tags.length ∧
       ((∃ a1 a0 a, tags = [a1, a0] ∧ k.tags = [a] ∧ pair a1 a0 a) ∨
         ∃ a1 a0 b1 b0 a b, tags = [a1, a0, b1, b0] ∧ k.tags = [a, b] ∧ pair a1 a0 a ∧ pair b1 b0 b)) ∧
   (∀ r : CompletionRecord, r.tag ≤ 65535 → r.bay ≤ 255 → r.size ≤ 255 → (∀ n, r.truckId = some n → n ≤ 65535) →
     r.recallCount ≤ 255 →
     ∃ g1 g0 slot kind level bay size lane i1 i0 s3 s2 s1 s0 e3 e2 e1 e0 recalls result,
       completionBytes r = [g1, g0, slot, kind, level, bay, size, lane, i1, i0, s3, s2, s1, s0, e3, e2, e1, e0, recalls,
         result] ∧
       pair g1 g0 r.tag ∧ slot.toNat = r.slot.val ∧ kind.toNat = r.job.kindCode ∧ level.toNat = r.job.levelCode ∧
       bay.toNat = r.bay ∧ size.toNat = r.size ∧ laneByte lane r.lane ∧ pair i1 i0 (r.truckId.getD 0) ∧
       s3 ++ s2 ++ s1 ++ s0 = r.takenTime ∧ e3 ++ e2 ++ e1 ++ e0 = r.endTime ∧ recalls.toNat = r.recallCount ∧
       result.toNat = r.result.code) ∧
   ∀ (count : Nat) (rs : List CompletionRecord), count ≤ 65535 → rs.length ≤ 8 →
     ∃ c1 c0 n, (Telegram.readReply (.log count rs) none).frame? =
         some (frame 0xA1#8 ([c1, c0, n] ++ rs.flatMap completionBytes)) ∧
       pair c1 c0 count ∧ n.toNat = rs.length)

/-- The bytes of a command whose body the spec lays out, sent one by one in their frame to a receiver in HUNT, are taken
as that very command: what the frame spells is what the part does. The bodies of one field are the model's reading
of the field widths (log 4). -/
def Obligations.FramedCommandIsTaken : Prop :=
  ∀ (s : State) (i : Instr) (p : PortId) (ty : Byte) (body : List Byte), i.wellFormed = true →
    spelled i = some (p, ty, body) → (s.port p).rx = .hunt →
    runAll ((frame ty body).map fun b => .byteArrival p b false) s = exec i s

/-- Every telegram command is answered on its own port, and its reply leaves before any notice it causes there: what
waited (and on a lane link that just came up the resync) stands first, then the one reply (for STATUS the run of read
replies), then notices only. -/
def Obligations.ReplyLeavesBeforeNotices : Prop :=
  ∀ (s t : State) (i : Instr) (p : PortId) (q : RequestType), telegramOf i = some (p, q) → exec i s = .next t →
    (t.port p).linkUp = true ∧ (t.port p).rx = .hunt ∧
    ∃ first reply notices, (t.port p).outbox = (s.port p).outbox ++ first ++ reply ++ notices ∧
      (∀ x ∈ first ++ notices, x.isNotice = true) ∧ (∀ x ∈ reply, x.isNotice = false) ∧ reply ≠ [] ∧
      (q ≠ .status → reply.length = 1) ∧ (p ≠ .lane ∨ s.lanePort.linkUp = true → first = [])

/-- Requests turned away whatever the state: a malformed body is refused with BAD_VALUE, a crane telegram other than
JOIN on the port of an unfitted slot with NOT_ACTIVE, and POSITION and the reports on a group in DOWN or JOINING
with NOT_ACTIVE; a report on another group's tag, or with none in flight, with NO_MOVE. That a malformed body is
answered first, and in which row, is the model's choice (log 5, log 6); that the refusal of a malformed lane telegram
carries no state of a stand, as it names none, is its reading of R140 (log 27). -/
def Obligations.RequestsAreTurnedAway : Prop :=
  (∀ (s : State) (p : PortId) (q : RequestType) (page : Nat) (i : Instr), malformedOn p q page = some i → q ≠ .join →
    p ≠ .lane ∨ s.lanePort.linkUp = true →
    exec i s = .next ((s.heard p).send p (.refuse q .badValue .none))) ∧
  ∀ (s : State) (c : Slot) (r : PositionReport) (ph : PhaseReport) (n : Nat),
    let refused : RequestType → Reason → Host.Outcome State Fault Refusal :=
      fun q x => .next ((s.heard (.crane c)).send (.crane c) (.refuse q x .none))
    let about : Reason → Prop := fun x =>
      exec (.phaseLocked c (.fields ph)) s = refused .phase x ∧ exec (.phaseAloft c (.fields n)) s = refused .phase x ∧
      exec (.phaseLanded c (.fields n)) s = refused .phase x ∧ exec (.abandon c (.fields n)) s = refused .abandon x ∧
      exec (.setBack c (.fields n)) s = refused .setBack x
    (s.fitted c = false → about .notActive ∧ exec (.position c (.fields r)) s = refused .position .notActive ∧
      exec (.travel c (.fields n)) s = refused .travel .notActive ∧
      exec (.travelCancel c (.fields ())) s = refused .travelCancel .notActive ∧
      exec (.leave c (.fields ())) s = refused .leave .notActive ∧
      exec (.take c (.fields ())) s = refused .take .notActive) ∧
    (s.fitted c = true →
      ((s.crane c).slotState = .down ∨ (s.crane c).slotState.isJoining = true →
        about .notActive ∧ exec (.position c (.fields r)) s = refused .position .notActive) ∧
      ((s.crane c).slotState = .stale ∨ (s.crane c).slotState = .active →
        (∀ f, s.flight c = some f → f.first ≠ n ∧ f.first ≠ ph.tag) → about .noMove))
end

