-- ==== Sys2Proof/Laws/State.lean ====
section
/-! SUPPORT. Reading a field after an update of the state: one lemma per field per update, and the reads of the tables. -/

namespace Sys2Proof.Machine

/-! ### Tables -/

@[simp] theorem entry_put_same {α : Type} {n : Nat} (v : Vector α n) (i : Fin n) (x : α) : entry (put v i x) i = x := by
  simp [entry, put]

theorem entry_put_other {α : Type} {n : Nat} (v : Vector α n) {i j : Fin n} (x : α) (h : j ≠ i) :
    entry (put v i x) j = entry v j := by
  simp only [entry, put, Fin.getElem_fin]
  exact Vector.getElem_set_ne _ _ (fun e => h (Fin.ext e.symm))

theorem entry_put {α : Type} {n : Nat} (v : Vector α n) (i j : Fin n) (x : α) :
    entry (put v i x) j = if j = i then x else entry v j := by
  by_cases h : j = i
  · subst h; simp
  · rw [if_neg h, entry_put_other v x h]

@[simp] theorem put_entry {α : Type} {n : Nat} (v : Vector α n) (i : Fin n) : put v i (entry v i) = v := by
  simp [put, entry]

@[simp] theorem put_put {α : Type} {n : Nat} (v : Vector α n) (i : Fin n) (x y : α) :
    put (put v i x) i y = put v i y := by
  simp [put]

@[simp] theorem entry_table8 {α : Type} (f : Fin 8 → α) (i : Fin 8) : entry (table8 f) i = f i := by
  match i with
  | 0 | 1 | 2 | 3 | 4 | 5 | 6 | 7 => rfl

@[simp] theorem entry_table7 {α : Type} (f : Fin 7 → α) (i : Fin 7) : entry (table7 f) i = f i := by
  match i with
  | 0 | 1 | 2 | 3 | 4 | 5 | 6 => rfl

@[simp] theorem entry_replicate {α : Type} {n : Nat} (x : α) (i : Fin n) : entry (Vector.replicate n x) i = x := by
  simp [entry]

@[simp] theorem mem_all8 (i : Fin 8) : i ∈ all8 := by
  match i with
  | 0 | 1 | 2 | 3 | 4 | 5 | 6 | 7 => simp [all8]

@[simp] theorem mem_all7 (i : Fin 7) : i ∈ all7 := by
  match i with
  | 0 | 1 | 2 | 3 | 4 | 5 | 6 => simp [all7]

/-- Two tables with the same entries are the same table. -/
theorem table_ext {α : Type} {n : Nat} {v w : Vector α n} (h : ∀ i, entry v i = entry w i) : v = w := by
  apply Vector.ext
  intro i hi
  exact h ⟨i, hi⟩

variable (s : State)

/-! ### setCrane -/

@[simp] theorem State.setCrane_pending (c : Slot) (r : CraneRecord) : (s.setCrane c r).pending = s.pending := rfl
@[simp] theorem State.setCrane_clock (c : Slot) (r : CraneRecord) : (s.setCrane c r).clock = s.clock := rfl
@[simp] theorem State.setCrane_mode (c : Slot) (r : CraneRecord) : (s.setCrane c r).mode = s.mode := rfl
@[simp] theorem State.setCrane_config (c : Slot) (r : CraneRecord) : (s.setCrane c r).config = s.config := rfl
@[simp] theorem State.setCrane_overrides (c : Slot) (r : CraneRecord) : (s.setCrane c r).overrides = s.overrides := rfl
@[simp] theorem State.setCrane_cranes (c : Slot) (r : CraneRecord) : (s.setCrane c r).cranes = put s.cranes c r := rfl
@[simp] theorem State.setCrane_span (c : Slot) (r : CraneRecord) : (s.setCrane c r).span = s.span := rfl
@[simp] theorem State.setCrane_watches (c : Slot) (r : CraneRecord) : (s.setCrane c r).watches = s.watches := rfl
@[simp] theorem State.setCrane_sensorLevels (c : Slot) (r : CraneRecord) :
    (s.setCrane c r).sensorLevels = s.sensorLevels := rfl
@[simp] theorem State.setCrane_latches (c : Slot) (r : CraneRecord) : (s.setCrane c r).latches = s.latches := rfl
@[simp] theorem State.setCrane_haltLine (c : Slot) (r : CraneRecord) : (s.setCrane c r).haltLine = s.haltLine := rfl
@[simp] theorem State.setCrane_halted (c : Slot) (r : CraneRecord) : (s.setCrane c r).halted = s.halted := rfl
@[simp] theorem State.setCrane_vessel (c : Slot) (r : CraneRecord) : (s.setCrane c r).vessel = s.vessel := rfl
@[simp] theorem State.setCrane_sections (c : Slot) (r : CraneRecord) : (s.setCrane c r).sections = s.sections := rfl
@[simp] theorem State.setCrane_gangs (c : Slot) (r : CraneRecord) : (s.setCrane c r).gangs = s.gangs := rfl
@[simp] theorem State.setCrane_queues (c : Slot) (r : CraneRecord) : (s.setCrane c r).queues = s.queues := rfl
@[simp] theorem State.setCrane_cursor (c : Slot) (r : CraneRecord) : (s.setCrane c r).cursor = s.cursor := rfl
@[simp] theorem State.setCrane_flights (c : Slot) (r : CraneRecord) : (s.setCrane c r).flights = s.flights := rfl
@[simp] theorem State.setCrane_stands (c : Slot) (r : CraneRecord) : (s.setCrane c r).stands = s.stands := rfl
@[simp] theorem State.setCrane_laneMask (c : Slot) (r : CraneRecord) : (s.setCrane c r).laneMask = s.laneMask := rfl
@[simp] theorem State.setCrane_pointers (c : Slot) (r : CraneRecord) : (s.setCrane c r).pointers = s.pointers := rfl
@[simp] theorem State.setCrane_callCounter (c : Slot) (r : CraneRecord) :
    (s.setCrane c r).callCounter = s.callCounter := rfl
@[simp] theorem State.setCrane_log (c : Slot) (r : CraneRecord) : (s.setCrane c r).log = s.log := rfl
@[simp] theorem State.setCrane_backlog (c : Slot) (r : CraneRecord) : (s.setCrane c r).backlog = s.backlog := rfl
@[simp] theorem State.setCrane_alerts (c : Slot) (r : CraneRecord) : (s.setCrane c r).alerts = s.alerts := rfl
@[simp] theorem State.setCrane_attn (c : Slot) (r : CraneRecord) : (s.setCrane c r).attn = s.attn := rfl
@[simp] theorem State.setCrane_cranePorts (c : Slot) (r : CraneRecord) : (s.setCrane c r).cranePorts = s.cranePorts :=
  rfl
@[simp] theorem State.setCrane_lanePort (c : Slot) (r : CraneRecord) : (s.setCrane c r).lanePort = s.lanePort := rfl
@[simp] theorem State.setCrane_gangPort (c : Slot) (r : CraneRecord) : (s.setCrane c r).gangPort = s.gangPort := rfl
@[simp] theorem State.setCrane_planPort (c : Slot) (r : CraneRecord) : (s.setCrane c r).planPort = s.planPort := rfl
@[simp] theorem State.setCrane_spanOf (c : Slot) (r : CraneRecord) (d : Slot) :
    (s.setCrane c r).spanOf d = s.spanOf d := rfl
@[simp] theorem State.setCrane_override (c : Slot) (r : CraneRecord) (d : Slot) :
    (s.setCrane c r).override d = s.override d := rfl
@[simp] theorem State.setCrane_watch (c : Slot) (r : CraneRecord) (d : Slot) : (s.setCrane c r).watch d = s.watch d :=
  rfl
@[simp] theorem State.setCrane_gang (c : Slot) (r : CraneRecord) (h : GangId) : (s.setCrane c r).gang h = s.gang h :=
  rfl
@[simp] theorem State.setCrane_queue (c : Slot) (r : CraneRecord) (d : Slot) : (s.setCrane c r).queue d = s.queue d :=
  rfl
@[simp] theorem State.setCrane_flight (c : Slot) (r : CraneRecord) (d : Slot) :
    (s.setCrane c r).flight d = s.flight d := rfl
@[simp] theorem State.setCrane_stand (c : Slot) (r : CraneRecord) (d : Slot) (m : Lane) :
    (s.setCrane c r).stand d m = s.stand d m := rfl
@[simp] theorem State.setCrane_pointer (c : Slot) (r : CraneRecord) (d : Slot) :
    (s.setCrane c r).pointer d = s.pointer d := rfl
@[simp] theorem State.setCrane_alert (c : Slot) (r : CraneRecord) (a : Alert) : (s.setCrane c r).alert a = s.alert a :=
  rfl
@[simp] theorem State.setCrane_sectionAt (c : Slot) (r : CraneRecord) (j : Nat) :
    (s.setCrane c r).section? j = s.section? j := by cases j <;> rfl
@[simp] theorem State.setCrane_fitted (c : Slot) (r : CraneRecord) (d : Slot) :
    (s.setCrane c r).fitted d = s.fitted d := rfl
@[simp] theorem State.setCrane_concern (c : Slot) (r : CraneRecord) (d : Slot) :
    (s.setCrane c r).concern d = s.concern d := rfl
@[simp] theorem State.setCrane_port (c : Slot) (r : CraneRecord) (x : PortId) : (s.setCrane c r).port x = s.port x :=
  by cases x <;> rfl

/-! ### setSpan -/

@[simp] theorem State.setSpan_pending (c : Slot) (r : SpanRecord) : (s.setSpan c r).pending = s.pending := rfl
@[simp] theorem State.setSpan_clock (c : Slot) (r : SpanRecord) : (s.setSpan c r).clock = s.clock := rfl
@[simp] theorem State.setSpan_mode (c : Slot) (r : SpanRecord) : (s.setSpan c r).mode = s.mode := rfl
@[simp] theorem State.setSpan_config (c : Slot) (r : SpanRecord) : (s.setSpan c r).config = s.config := rfl
@[simp] theorem State.setSpan_overrides (c : Slot) (r : SpanRecord) : (s.setSpan c r).overrides = s.overrides := rfl
@[simp] theorem State.setSpan_cranes (c : Slot) (r : SpanRecord) : (s.setSpan c r).cranes = s.cranes := rfl
@[simp] theorem State.setSpan_span (c : Slot) (r : SpanRecord) : (s.setSpan c r).span = put s.span c r := rfl
@[simp] theorem State.setSpan_watches (c : Slot) (r : SpanRecord) : (s.setSpan c r).watches = s.watches := rfl
@[simp] theorem State.setSpan_sensorLevels (c : Slot) (r : SpanRecord) :
    (s.setSpan c r).sensorLevels = s.sensorLevels := rfl
@[simp] theorem State.setSpan_latches (c : Slot) (r : SpanRecord) : (s.setSpan c r).latches = s.latches := rfl
@[simp] theorem State.setSpan_haltLine (c : Slot) (r : SpanRecord) : (s.setSpan c r).haltLine = s.haltLine := rfl
@[simp] theorem State.setSpan_halted (c : Slot) (r : SpanRecord) : (s.setSpan c r).halted = s.halted := rfl
@[simp] theorem State.setSpan_vessel (c : Slot) (r : SpanRecord) : (s.setSpan c r).vessel = s.vessel := rfl
@[simp] theorem State.setSpan_sections (c : Slot) (r : SpanRecord) : (s.setSpan c r).sections = s.sections := rfl
@[simp] theorem State.setSpan_gangs (c : Slot) (r : SpanRecord) : (s.setSpan c r).gangs = s.gangs := rfl
@[simp] theorem State.setSpan_queues (c : Slot) (r : SpanRecord) : (s.setSpan c r).queues = s.queues := rfl
@[simp] theorem State.setSpan_cursor (c : Slot) (r : SpanRecord) : (s.setSpan c r).cursor = s.cursor := rfl
@[simp] theorem State.setSpan_flights (c : Slot) (r : SpanRecord) : (s.setSpan c r).flights = s.flights := rfl
@[simp] theorem State.setSpan_stands (c : Slot) (r : SpanRecord) : (s.setSpan c r).stands = s.stands := rfl
@[simp] theorem State.setSpan_laneMask (c : Slot) (r : SpanRecord) : (s.setSpan c r).laneMask = s.laneMask := rfl
@[simp] theorem State.setSpan_pointers (c : Slot) (r : SpanRecord) : (s.setSpan c r).pointers = s.pointers := rfl
@[simp] theorem State.setSpan_callCounter (c : Slot) (r : SpanRecord) : (s.setSpan c r).callCounter = s.callCounter :=
  rfl
@[simp] theorem State.setSpan_log (c : Slot) (r : SpanRecord) : (s.setSpan c r).log = s.log := rfl
@[simp] theorem State.setSpan_backlog (c : Slot) (r : SpanRecord) : (s.setSpan c r).backlog = s.backlog := rfl
@[simp] theorem State.setSpan_alerts (c : Slot) (r : SpanRecord) : (s.setSpan c r).alerts = s.alerts := rfl
@[simp] theorem State.setSpan_attn (c : Slot) (r : SpanRecord) : (s.setSpan c r).attn = s.attn := rfl
@[simp] theorem State.setSpan_cranePorts (c : Slot) (r : SpanRecord) : (s.setSpan c r).cranePorts = s.cranePorts := rfl
@[simp] theorem State.setSpan_lanePort (c : Slot) (r : SpanRecord) : (s.setSpan c r).lanePort = s.lanePort := rfl
@[simp] theorem State.setSpan_gangPort (c : Slot) (r : SpanRecord) : (s.setSpan c r).gangPort = s.gangPort := rfl
@[simp] theorem State.setSpan_planPort (c : Slot) (r : SpanRecord) : (s.setSpan c r).planPort = s.planPort := rfl
@[simp] theorem State.setSpan_crane (c : Slot) (r : SpanRecord) (d : Slot) : (s.setSpan c r).crane d = s.crane d := rfl
@[simp] theorem State.setSpan_override (c : Slot) (r : SpanRecord) (d : Slot) :
    (s.setSpan c r).override d = s.override d := rfl
@[simp] theorem State.setSpan_watch (c : Slot) (r : SpanRecord) (d : Slot) : (s.setSpan c r).watch d = s.watch d := rfl
@[simp] theorem State.setSpan_gang (c : Slot) (r : SpanRecord) (h : GangId) : (s.setSpan c r).gang h = s.gang h := rfl
@[simp] theorem State.setSpan_queue (c : Slot) (r : SpanRecord) (d : Slot) : (s.setSpan c r).queue d = s.queue d := rfl
@[simp] theorem State.setSpan_flight (c : Slot) (r : SpanRecord) (d : Slot) : (s.setSpan c r).flight d = s.flight d :=
  rfl
@[simp] theorem State.setSpan_stand (c : Slot) (r : SpanRecord) (d : Slot) (m : Lane) :
    (s.setSpan c r).stand d m = s.stand d m := rfl
@[simp] theorem State.setSpan_pointer (c : Slot) (r : SpanRecord) (d : Slot) :
    (s.setSpan c r).pointer d = s.pointer d := rfl
@[simp] theorem State.setSpan_alert (c : Slot) (r : SpanRecord) (a : Alert) : (s.setSpan c r).alert a = s.alert a := rfl
@[simp] theorem State.setSpan_sectionAt (c : Slot) (r : SpanRecord) (j : Nat) :
    (s.setSpan c r).section? j = s.section? j := by cases j <;> rfl
@[simp] theorem State.setSpan_fitted (c : Slot) (r : SpanRecord) (d : Slot) : (s.setSpan c r).fitted d = s.fitted d :=
  rfl
@[simp] theorem State.setSpan_concern (c : Slot) (r : SpanRecord) (d : Slot) :
    (s.setSpan c r).concern d = s.concern d := rfl
@[simp] theorem State.setSpan_port (c : Slot) (r : SpanRecord) (x : PortId) : (s.setSpan c r).port x = s.port x :=
  by cases x <;> rfl

/-! ### setGang -/

@[simp] theorem State.setGang_pending (g : GangId) (r : Gang) : (s.setGang g r).pending = s.pending := rfl
@[simp] theorem State.setGang_clock (g : GangId) (r : Gang) : (s.setGang g r).clock = s.clock := rfl
@[simp] theorem State.setGang_mode (g : GangId) (r : Gang) : (s.setGang g r).mode = s.mode := rfl
@[simp] theorem State.setGang_config (g : GangId) (r : Gang) : (s.setGang g r).config = s.config := rfl
@[simp] theorem State.setGang_overrides (g : GangId) (r : Gang) : (s.setGang g r).overrides = s.overrides := rfl
@[simp] theorem State.setGang_cranes (g : GangId) (r : Gang) : (s.setGang g r).cranes = s.cranes := rfl
@[simp] theorem State.setGang_span (g : GangId) (r : Gang) : (s.setGang g r).span = s.span := rfl
@[simp] theorem State.setGang_watches (g : GangId) (r : Gang) : (s.setGang g r).watches = s.watches := rfl
@[simp] theorem State.setGang_sensorLevels (g : GangId) (r : Gang) : (s.setGang g r).sensorLevels = s.sensorLevels :=
  rfl
@[simp] theorem State.setGang_latches (g : GangId) (r : Gang) : (s.setGang g r).latches = s.latches := rfl
@[simp] theorem State.setGang_haltLine (g : GangId) (r : Gang) : (s.setGang g r).haltLine = s.haltLine := rfl
@[simp] theorem State.setGang_halted (g : GangId) (r : Gang) : (s.setGang g r).halted = s.halted := rfl
@[simp] theorem State.setGang_vessel (g : GangId) (r : Gang) : (s.setGang g r).vessel = s.vessel := rfl
@[simp] theorem State.setGang_sections (g : GangId) (r : Gang) : (s.setGang g r).sections = s.sections := rfl
@[simp] theorem State.setGang_gangs (g : GangId) (r : Gang) : (s.setGang g r).gangs = put s.gangs g r := rfl
@[simp] theorem State.setGang_queues (g : GangId) (r : Gang) : (s.setGang g r).queues = s.queues := rfl
@[simp] theorem State.setGang_cursor (g : GangId) (r : Gang) : (s.setGang g r).cursor = s.cursor := rfl
@[simp] theorem State.setGang_flights (g : GangId) (r : Gang) : (s.setGang g r).flights = s.flights := rfl
@[simp] theorem State.setGang_stands (g : GangId) (r : Gang) : (s.setGang g r).stands = s.stands := rfl
@[simp] theorem State.setGang_laneMask (g : GangId) (r : Gang) : (s.setGang g r).laneMask = s.laneMask := rfl
@[simp] theorem State.setGang_pointers (g : GangId) (r : Gang) : (s.setGang g r).pointers = s.pointers := rfl
@[simp] theorem State.setGang_callCounter (g : GangId) (r : Gang) : (s.setGang g r).callCounter = s.callCounter := rfl
@[simp] theorem State.setGang_log (g : GangId) (r : Gang) : (s.setGang g r).log = s.log := rfl
@[simp] theorem State.setGang_backlog (g : GangId) (r : Gang) : (s.setGang g r).backlog = s.backlog := rfl
@[simp] theorem State.setGang_alerts (g : GangId) (r : Gang) : (s.setGang g r).alerts = s.alerts := rfl
@[simp] theorem State.setGang_attn (g : GangId) (r : Gang) : (s.setGang g r).attn = s.attn := rfl
@[simp] theorem State.setGang_cranePorts (g : GangId) (r : Gang) : (s.setGang g r).cranePorts = s.cranePorts := rfl
@[simp] theorem State.setGang_lanePort (g : GangId) (r : Gang) : (s.setGang g r).lanePort = s.lanePort := rfl
@[simp] theorem State.setGang_gangPort (g : GangId) (r : Gang) : (s.setGang g r).gangPort = s.gangPort := rfl
@[simp] theorem State.setGang_planPort (g : GangId) (r : Gang) : (s.setGang g r).planPort = s.planPort := rfl
@[simp] theorem State.setGang_crane (g : GangId) (r : Gang) (d : Slot) : (s.setGang g r).crane d = s.crane d := rfl
@[simp] theorem State.setGang_spanOf (g : GangId) (r : Gang) (d : Slot) : (s.setGang g r).spanOf d = s.spanOf d := rfl
@[simp] theorem State.setGang_override (g : GangId) (r : Gang) (d : Slot) : (s.setGang g r).override d = s.override d :=
  rfl
@[simp] theorem State.setGang_watch (g : GangId) (r : Gang) (d : Slot) : (s.setGang g r).watch d = s.watch d := rfl
@[simp] theorem State.setGang_queue (g : GangId) (r : Gang) (d : Slot) : (s.setGang g r).queue d = s.queue d := rfl
@[simp] theorem State.setGang_flight (g : GangId) (r : Gang) (d : Slot) : (s.setGang g r).flight d = s.flight d := rfl
@[simp] theorem State.setGang_stand (g : GangId) (r : Gang) (d : Slot) (m : Lane) :
    (s.setGang g r).stand d m = s.stand d m := rfl
@[simp] theorem State.setGang_pointer (g : GangId) (r : Gang) (d : Slot) : (s.setGang g r).pointer d = s.pointer d :=
  rfl
@[simp] theorem State.setGang_alert (g : GangId) (r : Gang) (a : Alert) : (s.setGang g r).alert a = s.alert a := rfl
@[simp] theorem State.setGang_sectionAt (g : GangId) (r : Gang) (j : Nat) : (s.setGang g r).section? j = s.section? j :=
  by cases j <;> rfl
@[simp] theorem State.setGang_fitted (g : GangId) (r : Gang) (d : Slot) : (s.setGang g r).fitted d = s.fitted d := rfl
@[simp] theorem State.setGang_concern (g : GangId) (r : Gang) (d : Slot) : (s.setGang g r).concern d = s.concern d :=
  rfl
@[simp] theorem State.setGang_port (g : GangId) (r : Gang) (x : PortId) : (s.setGang g r).port x = s.port x :=
  by cases x <;> rfl

/-! ### setQueue -/

@[simp] theorem State.setQueue_pending (c : Slot) (q : List MoveRecord) : (s.setQueue c q).pending = s.pending := rfl
@[simp] theorem State.setQueue_clock (c : Slot) (q : List MoveRecord) : (s.setQueue c q).clock = s.clock := rfl
@[simp] theorem State.setQueue_mode (c : Slot) (q : List MoveRecord) : (s.setQueue c q).mode = s.mode := rfl
@[simp] theorem State.setQueue_config (c : Slot) (q : List MoveRecord) : (s.setQueue c q).config = s.config := rfl
@[simp] theorem State.setQueue_overrides (c : Slot) (q : List MoveRecord) : (s.setQueue c q).overrides = s.overrides :=
  rfl
@[simp] theorem State.setQueue_cranes (c : Slot) (q : List MoveRecord) : (s.setQueue c q).cranes = s.cranes := rfl
@[simp] theorem State.setQueue_span (c : Slot) (q : List MoveRecord) : (s.setQueue c q).span = s.span := rfl
@[simp] theorem State.setQueue_watches (c : Slot) (q : List MoveRecord) : (s.setQueue c q).watches = s.watches := rfl
@[simp] theorem State.setQueue_sensorLevels (c : Slot) (q : List MoveRecord) :
    (s.setQueue c q).sensorLevels = s.sensorLevels := rfl
@[simp] theorem State.setQueue_latches (c : Slot) (q : List MoveRecord) : (s.setQueue c q).latches = s.latches := rfl
@[simp] theorem State.setQueue_haltLine (c : Slot) (q : List MoveRecord) : (s.setQueue c q).haltLine = s.haltLine := rfl
@[simp] theorem State.setQueue_halted (c : Slot) (q : List MoveRecord) : (s.setQueue c q).halted = s.halted := rfl
@[simp] theorem State.setQueue_vessel (c : Slot) (q : List MoveRecord) : (s.setQueue c q).vessel = s.vessel := rfl
@[simp] theorem State.setQueue_sections (c : Slot) (q : List MoveRecord) : (s.setQueue c q).sections = s.sections := rfl
@[simp] theorem State.setQueue_gangs (c : Slot) (q : List MoveRecord) : (s.setQueue c q).gangs = s.gangs := rfl
@[simp] theorem State.setQueue_queues (c : Slot) (q : List MoveRecord) : (s.setQueue c q).queues = put s.queues c q :=
  rfl
@[simp] theorem State.setQueue_cursor (c : Slot) (q : List MoveRecord) : (s.setQueue c q).cursor = s.cursor := rfl
@[simp] theorem State.setQueue_flights (c : Slot) (q : List MoveRecord) : (s.setQueue c q).flights = s.flights := rfl
@[simp] theorem State.setQueue_stands (c : Slot) (q : List MoveRecord) : (s.setQueue c q).stands = s.stands := rfl
@[simp] theorem State.setQueue_laneMask (c : Slot) (q : List MoveRecord) : (s.setQueue c q).laneMask = s.laneMask := rfl
@[simp] theorem State.setQueue_pointers (c : Slot) (q : List MoveRecord) : (s.setQueue c q).pointers = s.pointers := rfl
@[simp] theorem State.setQueue_callCounter (c : Slot) (q : List MoveRecord) :
    (s.setQueue c q).callCounter = s.callCounter := rfl
@[simp] theorem State.setQueue_log (c : Slot) (q : List MoveRecord) : (s.setQueue c q).log = s.log := rfl
@[simp] theorem State.setQueue_backlog (c : Slot) (q : List MoveRecord) : (s.setQueue c q).backlog = s.backlog := rfl
@[simp] theorem State.setQueue_alerts (c : Slot) (q : List MoveRecord) : (s.setQueue c q).alerts = s.alerts := rfl
@[simp] theorem State.setQueue_attn (c : Slot) (q : List MoveRecord) : (s.setQueue c q).attn = s.attn := rfl
@[simp] theorem State.setQueue_cranePorts (c : Slot) (q : List MoveRecord) :
    (s.setQueue c q).cranePorts = s.cranePorts := rfl
@[simp] theorem State.setQueue_lanePort (c : Slot) (q : List MoveRecord) : (s.setQueue c q).lanePort = s.lanePort := rfl
@[simp] theorem State.setQueue_gangPort (c : Slot) (q : List MoveRecord) : (s.setQueue c q).gangPort = s.gangPort := rfl
@[simp] theorem State.setQueue_planPort (c : Slot) (q : List MoveRecord) : (s.setQueue c q).planPort = s.planPort := rfl
@[simp] theorem State.setQueue_crane (c : Slot) (q : List MoveRecord) (d : Slot) :
    (s.setQueue c q).crane d = s.crane d := rfl
@[simp] theorem State.setQueue_spanOf (c : Slot) (q : List MoveRecord) (d : Slot) :
    (s.setQueue c q).spanOf d = s.spanOf d := rfl
@[simp] theorem State.setQueue_override (c : Slot) (q : List MoveRecord) (d : Slot) :
    (s.setQueue c q).override d = s.override d := rfl
@[simp] theorem State.setQueue_watch (c : Slot) (q : List MoveRecord) (d : Slot) :
    (s.setQueue c q).watch d = s.watch d := rfl
@[simp] theorem State.setQueue_gang (c : Slot) (q : List MoveRecord) (h : GangId) :
    (s.setQueue c q).gang h = s.gang h := rfl
@[simp] theorem State.setQueue_flight (c : Slot) (q : List MoveRecord) (d : Slot) :
    (s.setQueue c q).flight d = s.flight d := rfl
@[simp] theorem State.setQueue_stand (c : Slot) (q : List MoveRecord) (d : Slot) (m : Lane) :
    (s.setQueue c q).stand d m = s.stand d m := rfl
@[simp] theorem State.setQueue_pointer (c : Slot) (q : List MoveRecord) (d : Slot) :
    (s.setQueue c q).pointer d = s.pointer d := rfl
@[simp] theorem State.setQueue_alert (c : Slot) (q : List MoveRecord) (a : Alert) :
    (s.setQueue c q).alert a = s.alert a := rfl
@[simp] theorem State.setQueue_sectionAt (c : Slot) (q : List MoveRecord) (j : Nat) :
    (s.setQueue c q).section? j = s.section? j := by cases j <;> rfl
@[simp] theorem State.setQueue_fitted (c : Slot) (q : List MoveRecord) (d : Slot) :
    (s.setQueue c q).fitted d = s.fitted d := rfl
@[simp] theorem State.setQueue_concern (c : Slot) (q : List MoveRecord) (d : Slot) :
    (s.setQueue c q).concern d = s.concern d := rfl
@[simp] theorem State.setQueue_port (c : Slot) (q : List MoveRecord) (x : PortId) :
    (s.setQueue c q).port x = s.port x := by cases x <;> rfl

/-! ### setFlight -/

@[simp] theorem State.setFlight_pending (c : Slot) (f : Option Flight) : (s.setFlight c f).pending = s.pending := rfl
@[simp] theorem State.setFlight_clock (c : Slot) (f : Option Flight) : (s.setFlight c f).clock = s.clock := rfl
@[simp] theorem State.setFlight_mode (c : Slot) (f : Option Flight) : (s.setFlight c f).mode = s.mode := rfl
@[simp] theorem State.setFlight_config (c : Slot) (f : Option Flight) : (s.setFlight c f).config = s.config := rfl
@[simp] theorem State.setFlight_overrides (c : Slot) (f : Option Flight) : (s.setFlight c f).overrides = s.overrides :=
  rfl
@[simp] theorem State.setFlight_cranes (c : Slot) (f : Option Flight) : (s.setFlight c f).cranes = s.cranes := rfl
@[simp] theorem State.setFlight_span (c : Slot) (f : Option Flight) : (s.setFlight c f).span = s.span := rfl
@[simp] theorem State.setFlight_watches (c : Slot) (f : Option Flight) : (s.setFlight c f).watches = s.watches := rfl
@[simp] theorem State.setFlight_sensorLevels (c : Slot) (f : Option Flight) :
    (s.setFlight c f).sensorLevels = s.sensorLevels := rfl
@[simp] theorem State.setFlight_latches (c : Slot) (f : Option Flight) : (s.setFlight c f).latches = s.latches := rfl
@[simp] theorem State.setFlight_haltLine (c : Slot) (f : Option Flight) : (s.setFlight c f).haltLine = s.haltLine := rfl
@[simp] theorem State.setFlight_halted (c : Slot) (f : Option Flight) : (s.setFlight c f).halted = s.halted := rfl
@[simp] theorem State.setFlight_vessel (c : Slot) (f : Option Flight) : (s.setFlight c f).vessel = s.vessel := rfl
@[simp] theorem State.setFlight_sections (c : Slot) (f : Option Flight) : (s.setFlight c f).sections = s.sections := rfl
@[simp] theorem State.setFlight_gangs (c : Slot) (f : Option Flight) : (s.setFlight c f).gangs = s.gangs := rfl
@[simp] theorem State.setFlight_queues (c : Slot) (f : Option Flight) : (s.setFlight c f).queues = s.queues := rfl
@[simp] theorem State.setFlight_cursor (c : Slot) (f : Option Flight) : (s.setFlight c f).cursor = s.cursor := rfl
@[simp] theorem State.setFlight_flights (c : Slot) (f : Option Flight) :
    (s.setFlight c f).flights = put s.flights c f := rfl
@[simp] theorem State.setFlight_stands (c : Slot) (f : Option Flight) : (s.setFlight c f).stands = s.stands := rfl
@[simp] theorem State.setFlight_laneMask (c : Slot) (f : Option Flight) : (s.setFlight c f).laneMask = s.laneMask := rfl
@[simp] theorem State.setFlight_pointers (c : Slot) (f : Option Flight) : (s.setFlight c f).pointers = s.pointers := rfl
@[simp] theorem State.setFlight_callCounter (c : Slot) (f : Option Flight) :
    (s.setFlight c f).callCounter = s.callCounter := rfl
@[simp] theorem State.setFlight_log (c : Slot) (f : Option Flight) : (s.setFlight c f).log = s.log := rfl
@[simp] theorem State.setFlight_backlog (c : Slot) (f : Option Flight) : (s.setFlight c f).backlog = s.backlog := rfl
@[simp] theorem State.setFlight_alerts (c : Slot) (f : Option Flight) : (s.setFlight c f).alerts = s.alerts := rfl
@[simp] theorem State.setFlight_attn (c : Slot) (f : Option Flight) : (s.setFlight c f).attn = s.attn := rfl
@[simp] theorem State.setFlight_cranePorts (c : Slot) (f : Option Flight) :
    (s.setFlight c f).cranePorts = s.cranePorts := rfl
@[simp] theorem State.setFlight_lanePort (c : Slot) (f : Option Flight) : (s.setFlight c f).lanePort = s.lanePort := rfl
@[simp] theorem State.setFlight_gangPort (c : Slot) (f : Option Flight) : (s.setFlight c f).gangPort = s.gangPort := rfl
@[simp] theorem State.setFlight_planPort (c : Slot) (f : Option Flight) : (s.setFlight c f).planPort = s.planPort := rfl
@[simp] theorem State.setFlight_crane (c : Slot) (f : Option Flight) (d : Slot) :
    (s.setFlight c f).crane d = s.crane d := rfl
@[simp] theorem State.setFlight_spanOf (c : Slot) (f : Option Flight) (d : Slot) :
    (s.setFlight c f).spanOf d = s.spanOf d := rfl
@[simp] theorem State.setFlight_override (c : Slot) (f : Option Flight) (d : Slot) :
    (s.setFlight c f).override d = s.override d := rfl
@[simp] theorem State.setFlight_watch (c : Slot) (f : Option Flight) (d : Slot) :
    (s.setFlight c f).watch d = s.watch d := rfl
@[simp] theorem State.setFlight_gang (c : Slot) (f : Option Flight) (h : GangId) :
    (s.setFlight c f).gang h = s.gang h := rfl
@[simp] theorem State.setFlight_queue (c : Slot) (f : Option Flight) (d : Slot) :
    (s.setFlight c f).queue d = s.queue d := rfl
@[simp] theorem State.setFlight_stand (c : Slot) (f : Option Flight) (d : Slot) (m : Lane) :
    (s.setFlight c f).stand d m = s.stand d m := rfl
@[simp] theorem State.setFlight_pointer (c : Slot) (f : Option Flight) (d : Slot) :
    (s.setFlight c f).pointer d = s.pointer d := rfl
@[simp] theorem State.setFlight_alert (c : Slot) (f : Option Flight) (a : Alert) :
    (s.setFlight c f).alert a = s.alert a := rfl
@[simp] theorem State.setFlight_sectionAt (c : Slot) (f : Option Flight) (j : Nat) :
    (s.setFlight c f).section? j = s.section? j := by cases j <;> rfl
@[simp] theorem State.setFlight_fitted (c : Slot) (f : Option Flight) (d : Slot) :
    (s.setFlight c f).fitted d = s.fitted d := rfl
@[simp] theorem State.setFlight_concern (c : Slot) (f : Option Flight) (d : Slot) :
    (s.setFlight c f).concern d = s.concern d := rfl
@[simp] theorem State.setFlight_port (c : Slot) (f : Option Flight) (x : PortId) :
    (s.setFlight c f).port x = s.port x := by cases x <;> rfl

/-! ### setStand -/

@[simp] theorem State.setStand_pending (c : Slot) (l : Lane) (r : Stand) : (s.setStand c l r).pending = s.pending := rfl
@[simp] theorem State.setStand_clock (c : Slot) (l : Lane) (r : Stand) : (s.setStand c l r).clock = s.clock := rfl
@[simp] theorem State.setStand_mode (c : Slot) (l : Lane) (r : Stand) : (s.setStand c l r).mode = s.mode := rfl
@[simp] theorem State.setStand_config (c : Slot) (l : Lane) (r : Stand) : (s.setStand c l r).config = s.config := rfl
@[simp] theorem State.setStand_overrides (c : Slot) (l : Lane) (r : Stand) :
    (s.setStand c l r).overrides = s.overrides := rfl
@[simp] theorem State.setStand_cranes (c : Slot) (l : Lane) (r : Stand) : (s.setStand c l r).cranes = s.cranes := rfl
@[simp] theorem State.setStand_span (c : Slot) (l : Lane) (r : Stand) : (s.setStand c l r).span = s.span := rfl
@[simp] theorem State.setStand_watches (c : Slot) (l : Lane) (r : Stand) : (s.setStand c l r).watches = s.watches := rfl
@[simp] theorem State.setStand_sensorLevels (c : Slot) (l : Lane) (r : Stand) :
    (s.setStand c l r).sensorLevels = s.sensorLevels := rfl
@[simp] theorem State.setStand_latches (c : Slot) (l : Lane) (r : Stand) : (s.setStand c l r).latches = s.latches := rfl
@[simp] theorem State.setStand_haltLine (c : Slot) (l : Lane) (r : Stand) : (s.setStand c l r).haltLine = s.haltLine :=
  rfl
@[simp] theorem State.setStand_halted (c : Slot) (l : Lane) (r : Stand) : (s.setStand c l r).halted = s.halted := rfl
@[simp] theorem State.setStand_vessel (c : Slot) (l : Lane) (r : Stand) : (s.setStand c l r).vessel = s.vessel := rfl
@[simp] theorem State.setStand_sections (c : Slot) (l : Lane) (r : Stand) : (s.setStand c l r).sections = s.sections :=
  rfl
@[simp] theorem State.setStand_gangs (c : Slot) (l : Lane) (r : Stand) : (s.setStand c l r).gangs = s.gangs := rfl
@[simp] theorem State.setStand_queues (c : Slot) (l : Lane) (r : Stand) : (s.setStand c l r).queues = s.queues := rfl
@[simp] theorem State.setStand_cursor (c : Slot) (l : Lane) (r : Stand) : (s.setStand c l r).cursor = s.cursor := rfl
@[simp] theorem State.setStand_flights (c : Slot) (l : Lane) (r : Stand) : (s.setStand c l r).flights = s.flights := rfl
@[simp] theorem State.setStand_stands (c : Slot) (l : Lane) (r : Stand) :
    (s.setStand c l r).stands = put s.stands c (put (entry s.stands c) l r) := rfl
@[simp] theorem State.setStand_laneMask (c : Slot) (l : Lane) (r : Stand) : (s.setStand c l r).laneMask = s.laneMask :=
  rfl
@[simp] theorem State.setStand_pointers (c : Slot) (l : Lane) (r : Stand) : (s.setStand c l r).pointers = s.pointers :=
  rfl
@[simp] theorem State.setStand_callCounter (c : Slot) (l : Lane) (r : Stand) :
    (s.setStand c l r).callCounter = s.callCounter := rfl
@[simp] theorem State.setStand_log (c : Slot) (l : Lane) (r : Stand) : (s.setStand c l r).log = s.log := rfl
@[simp] theorem State.setStand_backlog (c : Slot) (l : Lane) (r : Stand) : (s.setStand c l r).backlog = s.backlog := rfl
@[simp] theorem State.setStand_alerts (c : Slot) (l : Lane) (r : Stand) : (s.setStand c l r).alerts = s.alerts := rfl
@[simp] theorem State.setStand_attn (c : Slot) (l : Lane) (r : Stand) : (s.setStand c l r).attn = s.attn := rfl
@[simp] theorem State.setStand_cranePorts (c : Slot) (l : Lane) (r : Stand) :
    (s.setStand c l r).cranePorts = s.cranePorts := rfl
@[simp] theorem State.setStand_lanePort (c : Slot) (l : Lane) (r : Stand) : (s.setStand c l r).lanePort = s.lanePort :=
  rfl
@[simp] theorem State.setStand_gangPort (c : Slot) (l : Lane) (r : Stand) : (s.setStand c l r).gangPort = s.gangPort :=
  rfl
@[simp] theorem State.setStand_planPort (c : Slot) (l : Lane) (r : Stand) : (s.setStand c l r).planPort = s.planPort :=
  rfl
@[simp] theorem State.setStand_crane (c : Slot) (l : Lane) (r : Stand) (d : Slot) :
    (s.setStand c l r).crane d = s.crane d := rfl
@[simp] theorem State.setStand_spanOf (c : Slot) (l : Lane) (r : Stand) (d : Slot) :
    (s.setStand c l r).spanOf d = s.spanOf d := rfl
@[simp] theorem State.setStand_override (c : Slot) (l : Lane) (r : Stand) (d : Slot) :
    (s.setStand c l r).override d = s.override d := rfl
@[simp] theorem State.setStand_watch (c : Slot) (l : Lane) (r : Stand) (d : Slot) :
    (s.setStand c l r).watch d = s.watch d := rfl
@[simp] theorem State.setStand_gang (c : Slot) (l : Lane) (r : Stand) (h : GangId) :
    (s.setStand c l r).gang h = s.gang h := rfl
@[simp] theorem State.setStand_queue (c : Slot) (l : Lane) (r : Stand) (d : Slot) :
    (s.setStand c l r).queue d = s.queue d := rfl
@[simp] theorem State.setStand_flight (c : Slot) (l : Lane) (r : Stand) (d : Slot) :
    (s.setStand c l r).flight d = s.flight d := rfl
@[simp] theorem State.setStand_pointer (c : Slot) (l : Lane) (r : Stand) (d : Slot) :
    (s.setStand c l r).pointer d = s.pointer d := rfl
@[simp] theorem State.setStand_alert (c : Slot) (l : Lane) (r : Stand) (a : Alert) :
    (s.setStand c l r).alert a = s.alert a := rfl
@[simp] theorem State.setStand_sectionAt (c : Slot) (l : Lane) (r : Stand) (j : Nat) :
    (s.setStand c l r).section? j = s.section? j := by cases j <;> rfl
@[simp] theorem State.setStand_fitted (c : Slot) (l : Lane) (r : Stand) (d : Slot) :
    (s.setStand c l r).fitted d = s.fitted d := rfl
@[simp] theorem State.setStand_concern (c : Slot) (l : Lane) (r : Stand) (d : Slot) :
    (s.setStand c l r).concern d = s.concern d := rfl
@[simp] theorem State.setStand_port (c : Slot) (l : Lane) (r : Stand) (x : PortId) :
    (s.setStand c l r).port x = s.port x := by cases x <;> rfl

/-! ### changeSection -/

@[simp] theorem State.changeSection_pending (i : Nat) (f : Section → Section) :
    (s.changeSection i f).pending = s.pending := by cases i <;> rfl
@[simp] theorem State.changeSection_clock (i : Nat) (f : Section → Section) : (s.changeSection i f).clock = s.clock :=
  by cases i <;> rfl
@[simp] theorem State.changeSection_mode (i : Nat) (f : Section → Section) : (s.changeSection i f).mode = s.mode :=
  by cases i <;> rfl
@[simp] theorem State.changeSection_config (i : Nat) (f : Section → Section) :
    (s.changeSection i f).config = s.config := by cases i <;> rfl
@[simp] theorem State.changeSection_overrides (i : Nat) (f : Section → Section) :
    (s.changeSection i f).overrides = s.overrides := by cases i <;> rfl
@[simp] theorem State.changeSection_cranes (i : Nat) (f : Section → Section) :
    (s.changeSection i f).cranes = s.cranes := by cases i <;> rfl
@[simp] theorem State.changeSection_span (i : Nat) (f : Section → Section) : (s.changeSection i f).span = s.span :=
  by cases i <;> rfl
@[simp] theorem State.changeSection_watches (i : Nat) (f : Section → Section) :
    (s.changeSection i f).watches = s.watches := by cases i <;> rfl
@[simp] theorem State.changeSection_sensorLevels (i : Nat) (f : Section → Section) :
    (s.changeSection i f).sensorLevels = s.sensorLevels := by cases i <;> rfl
@[simp] theorem State.changeSection_latches (i : Nat) (f : Section → Section) :
    (s.changeSection i f).latches = s.latches := by cases i <;> rfl
@[simp] theorem State.changeSection_haltLine (i : Nat) (f : Section → Section) :
    (s.changeSection i f).haltLine = s.haltLine := by cases i <;> rfl
@[simp] theorem State.changeSection_halted (i : Nat) (f : Section → Section) :
    (s.changeSection i f).halted = s.halted := by cases i <;> rfl
@[simp] theorem State.changeSection_vessel (i : Nat) (f : Section → Section) :
    (s.changeSection i f).vessel = s.vessel := by cases i <;> rfl
@[simp] theorem State.changeSection_gangs (i : Nat) (f : Section → Section) : (s.changeSection i f).gangs = s.gangs :=
  by cases i <;> rfl
@[simp] theorem State.changeSection_queues (i : Nat) (f : Section → Section) :
    (s.changeSection i f).queues = s.queues := by cases i <;> rfl
@[simp] theorem State.changeSection_cursor (i : Nat) (f : Section → Section) :
    (s.changeSection i f).cursor = s.cursor := by cases i <;> rfl
@[simp] theorem State.changeSection_flights (i : Nat) (f : Section → Section) :
    (s.changeSection i f).flights = s.flights := by cases i <;> rfl
@[simp] theorem State.changeSection_stands (i : Nat) (f : Section → Section) :
    (s.changeSection i f).stands = s.stands := by cases i <;> rfl
@[simp] theorem State.changeSection_laneMask (i : Nat) (f : Section → Section) :
    (s.changeSection i f).laneMask = s.laneMask := by cases i <;> rfl
@[simp] theorem State.changeSection_pointers (i : Nat) (f : Section → Section) :
    (s.changeSection i f).pointers = s.pointers := by cases i <;> rfl
@[simp] theorem State.changeSection_callCounter (i : Nat) (f : Section → Section) :
    (s.changeSection i f).callCounter = s.callCounter := by cases i <;> rfl
@[simp] theorem State.changeSection_log (i : Nat) (f : Section → Section) : (s.changeSection i f).log = s.log :=
  by cases i <;> rfl
@[simp] theorem State.changeSection_backlog (i : Nat) (f : Section → Section) :
    (s.changeSection i f).backlog = s.backlog := by cases i <;> rfl
@[simp] theorem State.changeSection_alerts (i : Nat) (f : Section → Section) :
    (s.changeSection i f).alerts = s.alerts := by cases i <;> rfl
@[simp] theorem State.changeSection_attn (i : Nat) (f : Section → Section) : (s.changeSection i f).attn = s.attn :=
  by cases i <;> rfl
@[simp] theorem State.changeSection_cranePorts (i : Nat) (f : Section → Section) :
    (s.changeSection i f).cranePorts = s.cranePorts := by cases i <;> rfl
@[simp] theorem State.changeSection_lanePort (i : Nat) (f : Section → Section) :
    (s.changeSection i f).lanePort = s.lanePort := by cases i <;> rfl
@[simp] theorem State.changeSection_gangPort (i : Nat) (f : Section → Section) :
    (s.changeSection i f).gangPort = s.gangPort := by cases i <;> rfl
@[simp] theorem State.changeSection_planPort (i : Nat) (f : Section → Section) :
    (s.changeSection i f).planPort = s.planPort := by cases i <;> rfl
@[simp] theorem State.changeSection_crane (i : Nat) (f : Section → Section) (d : Slot) :
    (s.changeSection i f).crane d = s.crane d := by cases i <;> rfl
@[simp] theorem State.changeSection_spanOf (i : Nat) (f : Section → Section) (d : Slot) :
    (s.changeSection i f).spanOf d = s.spanOf d := by cases i <;> rfl
@[simp] theorem State.changeSection_override (i : Nat) (f : Section → Section) (d : Slot) :
    (s.changeSection i f).override d = s.override d := by cases i <;> rfl
@[simp] theorem State.changeSection_watch (i : Nat) (f : Section → Section) (d : Slot) :
    (s.changeSection i f).watch d = s.watch d := by cases i <;> rfl
@[simp] theorem State.changeSection_gang (i : Nat) (f : Section → Section) (h : GangId) :
    (s.changeSection i f).gang h = s.gang h := by cases i <;> rfl
@[simp] theorem State.changeSection_queue (i : Nat) (f : Section → Section) (d : Slot) :
    (s.changeSection i f).queue d = s.queue d := by cases i <;> rfl
@[simp] theorem State.changeSection_flight (i : Nat) (f : Section → Section) (d : Slot) :
    (s.changeSection i f).flight d = s.flight d := by cases i <;> rfl
@[simp] theorem State.changeSection_stand (i : Nat) (f : Section → Section) (d : Slot) (m : Lane) :
    (s.changeSection i f).stand d m = s.stand d m := by cases i <;> rfl
@[simp] theorem State.changeSection_pointer (i : Nat) (f : Section → Section) (d : Slot) :
    (s.changeSection i f).pointer d = s.pointer d := by cases i <;> rfl
@[simp] theorem State.changeSection_alert (i : Nat) (f : Section → Section) (a : Alert) :
    (s.changeSection i f).alert a = s.alert a := by cases i <;> rfl
@[simp] theorem State.changeSection_fitted (i : Nat) (f : Section → Section) (d : Slot) :
    (s.changeSection i f).fitted d = s.fitted d := by cases i <;> rfl
@[simp] theorem State.changeSection_concern (i : Nat) (f : Section → Section) (d : Slot) :
    (s.changeSection i f).concern d = s.concern d := by cases i <;> rfl
@[simp] theorem State.changeSection_port (i : Nat) (f : Section → Section) (x : PortId) :
    (s.changeSection i f).port x = s.port x := by cases i <;> cases x <;> rfl

/-! ### setPort -/

@[simp] theorem State.setPort_pending (p : PortId) (r : Port) : (s.setPort p r).pending = s.pending :=
  by cases p <;> rfl
@[simp] theorem State.setPort_clock (p : PortId) (r : Port) : (s.setPort p r).clock = s.clock := by cases p <;> rfl
@[simp] theorem State.setPort_mode (p : PortId) (r : Port) : (s.setPort p r).mode = s.mode := by cases p <;> rfl
@[simp] theorem State.setPort_config (p : PortId) (r : Port) : (s.setPort p r).config = s.config := by cases p <;> rfl
@[simp] theorem State.setPort_overrides (p : PortId) (r : Port) : (s.setPort p r).overrides = s.overrides :=
  by cases p <;> rfl
@[simp] theorem State.setPort_cranes (p : PortId) (r : Port) : (s.setPort p r).cranes = s.cranes := by cases p <;> rfl
@[simp] theorem State.setPort_span (p : PortId) (r : Port) : (s.setPort p r).span = s.span := by cases p <;> rfl
@[simp] theorem State.setPort_watches (p : PortId) (r : Port) : (s.setPort p r).watches = s.watches :=
  by cases p <;> rfl
@[simp] theorem State.setPort_sensorLevels (p : PortId) (r : Port) : (s.setPort p r).sensorLevels = s.sensorLevels :=
  by cases p <;> rfl
@[simp] theorem State.setPort_latches (p : PortId) (r : Port) : (s.setPort p r).latches = s.latches :=
  by cases p <;> rfl
@[simp] theorem State.setPort_haltLine (p : PortId) (r : Port) : (s.setPort p r).haltLine = s.haltLine :=
  by cases p <;> rfl
@[simp] theorem State.setPort_halted (p : PortId) (r : Port) : (s.setPort p r).halted = s.halted := by cases p <;> rfl
@[simp] theorem State.setPort_vessel (p : PortId) (r : Port) : (s.setPort p r).vessel = s.vessel := by cases p <;> rfl
@[simp] theorem State.setPort_sections (p : PortId) (r : Port) : (s.setPort p r).sections = s.sections :=
  by cases p <;> rfl
@[simp] theorem State.setPort_gangs (p : PortId) (r : Port) : (s.setPort p r).gangs = s.gangs := by cases p <;> rfl
@[simp] theorem State.setPort_queues (p : PortId) (r : Port) : (s.setPort p r).queues = s.queues := by cases p <;> rfl
@[simp] theorem State.setPort_cursor (p : PortId) (r : Port) : (s.setPort p r).cursor = s.cursor := by cases p <;> rfl
@[simp] theorem State.setPort_flights (p : PortId) (r : Port) : (s.setPort p r).flights = s.flights :=
  by cases p <;> rfl
@[simp] theorem State.setPort_stands (p : PortId) (r : Port) : (s.setPort p r).stands = s.stands := by cases p <;> rfl
@[simp] theorem State.setPort_laneMask (p : PortId) (r : Port) : (s.setPort p r).laneMask = s.laneMask :=
  by cases p <;> rfl
@[simp] theorem State.setPort_pointers (p : PortId) (r : Port) : (s.setPort p r).pointers = s.pointers :=
  by cases p <;> rfl
@[simp] theorem State.setPort_callCounter (p : PortId) (r : Port) : (s.setPort p r).callCounter = s.callCounter :=
  by cases p <;> rfl
@[simp] theorem State.setPort_log (p : PortId) (r : Port) : (s.setPort p r).log = s.log := by cases p <;> rfl
@[simp] theorem State.setPort_backlog (p : PortId) (r : Port) : (s.setPort p r).backlog = s.backlog :=
  by cases p <;> rfl
@[simp] theorem State.setPort_alerts (p : PortId) (r : Port) : (s.setPort p r).alerts = s.alerts := by cases p <;> rfl
@[simp] theorem State.setPort_attn (p : PortId) (r : Port) : (s.setPort p r).attn = s.attn := by cases p <;> rfl
@[simp] theorem State.setPort_crane (p : PortId) (r : Port) (d : Slot) : (s.setPort p r).crane d = s.crane d :=
  by cases p <;> rfl
@[simp] theorem State.setPort_spanOf (p : PortId) (r : Port) (d : Slot) : (s.setPort p r).spanOf d = s.spanOf d :=
  by cases p <;> rfl
@[simp] theorem State.setPort_override (p : PortId) (r : Port) (d : Slot) : (s.setPort p r).override d = s.override d :=
  by cases p <;> rfl
@[simp] theorem State.setPort_watch (p : PortId) (r : Port) (d : Slot) : (s.setPort p r).watch d = s.watch d :=
  by cases p <;> rfl
@[simp] theorem State.setPort_gang (p : PortId) (r : Port) (h : GangId) : (s.setPort p r).gang h = s.gang h :=
  by cases p <;> rfl
@[simp] theorem State.setPort_queue (p : PortId) (r : Port) (d : Slot) : (s.setPort p r).queue d = s.queue d :=
  by cases p <;> rfl
@[simp] theorem State.setPort_flight (p : PortId) (r : Port) (d : Slot) : (s.setPort p r).flight d = s.flight d :=
  by cases p <;> rfl
@[simp] theorem State.setPort_stand (p : PortId) (r : Port) (d : Slot) (m : Lane) :
    (s.setPort p r).stand d m = s.stand d m := by cases p <;> rfl
@[simp] theorem State.setPort_pointer (p : PortId) (r : Port) (d : Slot) : (s.setPort p r).pointer d = s.pointer d :=
  by cases p <;> rfl
@[simp] theorem State.setPort_alert (p : PortId) (r : Port) (a : Alert) : (s.setPort p r).alert a = s.alert a :=
  by cases p <;> rfl
@[simp] theorem State.setPort_sectionAt (p : PortId) (r : Port) (j : Nat) : (s.setPort p r).section? j = s.section? j :=
  by cases p <;> cases j <;> rfl
@[simp] theorem State.setPort_fitted (p : PortId) (r : Port) (d : Slot) : (s.setPort p r).fitted d = s.fitted d :=
  by cases p <;> rfl
@[simp] theorem State.setPort_concern (p : PortId) (r : Port) (d : Slot) : (s.setPort p r).concern d = s.concern d :=
  by cases p <;> rfl

/-! ### driveAttn -/

@[simp] theorem State.driveAttn_pending : (s.driveAttn).pending = s.pending := rfl
@[simp] theorem State.driveAttn_clock : (s.driveAttn).clock = s.clock := rfl
@[simp] theorem State.driveAttn_mode : (s.driveAttn).mode = s.mode := rfl
@[simp] theorem State.driveAttn_config : (s.driveAttn).config = s.config := rfl
@[simp] theorem State.driveAttn_overrides : (s.driveAttn).overrides = s.overrides := rfl
@[simp] theorem State.driveAttn_cranes : (s.driveAttn).cranes = s.cranes := rfl
@[simp] theorem State.driveAttn_span : (s.driveAttn).span = s.span := rfl
@[simp] theorem State.driveAttn_watches : (s.driveAttn).watches = s.watches := rfl
@[simp] theorem State.driveAttn_sensorLevels : (s.driveAttn).sensorLevels = s.sensorLevels := rfl
@[simp] theorem State.driveAttn_latches : (s.driveAttn).latches = s.latches := rfl
@[simp] theorem State.driveAttn_haltLine : (s.driveAttn).haltLine = s.haltLine := rfl
@[simp] theorem State.driveAttn_halted : (s.driveAttn).halted = s.halted := rfl
@[simp] theorem State.driveAttn_vessel : (s.driveAttn).vessel = s.vessel := rfl
@[simp] theorem State.driveAttn_sections : (s.driveAttn).sections = s.sections := rfl
@[simp] theorem State.driveAttn_gangs : (s.driveAttn).gangs = s.gangs := rfl
@[simp] theorem State.driveAttn_queues : (s.driveAttn).queues = s.queues := rfl
@[simp] theorem State.driveAttn_cursor : (s.driveAttn).cursor = s.cursor := rfl
@[simp] theorem State.driveAttn_flights : (s.driveAttn).flights = s.flights := rfl
@[simp] theorem State.driveAttn_stands : (s.driveAttn).stands = s.stands := rfl
@[simp] theorem State.driveAttn_laneMask : (s.driveAttn).laneMask = s.laneMask := rfl
@[simp] theorem State.driveAttn_pointers : (s.driveAttn).pointers = s.pointers := rfl
@[simp] theorem State.driveAttn_callCounter : (s.driveAttn).callCounter = s.callCounter := rfl
@[simp] theorem State.driveAttn_log : (s.driveAttn).log = s.log := rfl
@[simp] theorem State.driveAttn_backlog : (s.driveAttn).backlog = s.backlog := rfl
@[simp] theorem State.driveAttn_alerts : (s.driveAttn).alerts = s.alerts := rfl
@[simp] theorem State.driveAttn_attn : (s.driveAttn).attn = attnLevel s.alerts s.config.alertMask := rfl
@[simp] theorem State.driveAttn_cranePorts : (s.driveAttn).cranePorts = s.cranePorts := rfl
@[simp] theorem State.driveAttn_lanePort : (s.driveAttn).lanePort = s.lanePort := rfl
@[simp] theorem State.driveAttn_gangPort : (s.driveAttn).gangPort = s.gangPort := rfl
@[simp] theorem State.driveAttn_planPort : (s.driveAttn).planPort = s.planPort := rfl
@[simp] theorem State.driveAttn_crane (d : Slot) : (s.driveAttn).crane d = s.crane d := rfl
@[simp] theorem State.driveAttn_spanOf (d : Slot) : (s.driveAttn).spanOf d = s.spanOf d := rfl
@[simp] theorem State.driveAttn_override (d : Slot) : (s.driveAttn).override d = s.override d := rfl
@[simp] theorem State.driveAttn_watch (d : Slot) : (s.driveAttn).watch d = s.watch d := rfl
@[simp] theorem State.driveAttn_gang (h : GangId) : (s.driveAttn).gang h = s.gang h := rfl
@[simp] theorem State.driveAttn_queue (d : Slot) : (s.driveAttn).queue d = s.queue d := rfl
@[simp] theorem State.driveAttn_flight (d : Slot) : (s.driveAttn).flight d = s.flight d := rfl
@[simp] theorem State.driveAttn_stand (d : Slot) (m : Lane) : (s.driveAttn).stand d m = s.stand d m := rfl
@[simp] theorem State.driveAttn_pointer (d : Slot) : (s.driveAttn).pointer d = s.pointer d := rfl
@[simp] theorem State.driveAttn_alert (a : Alert) : (s.driveAttn).alert a = s.alert a := rfl
@[simp] theorem State.driveAttn_sectionAt (j : Nat) : (s.driveAttn).section? j = s.section? j := by cases j <;> rfl
@[simp] theorem State.driveAttn_fitted (d : Slot) : (s.driveAttn).fitted d = s.fitted d := rfl
@[simp] theorem State.driveAttn_concern (d : Slot) : (s.driveAttn).concern d = s.concern d := rfl
@[simp] theorem State.driveAttn_port (x : PortId) : (s.driveAttn).port x = s.port x := by cases x <;> rfl

/-! ### An update read back -/

theorem State.crane_setCrane (c d : Slot) (r : CraneRecord) :
    (s.setCrane c r).crane d = if d = c then r else s.crane d := entry_put _ _ _ _
theorem State.spanOf_setSpan (c d : Slot) (r : SpanRecord) :
    (s.setSpan c r).spanOf d = if d = c then r else s.spanOf d := entry_put _ _ _ _
theorem State.gang_setGang (g h : GangId) (r : Gang) :
    (s.setGang g r).gang h = if h = g then r else s.gang h := entry_put _ _ _ _
theorem State.queue_setQueue (c d : Slot) (q : List MoveRecord) :
    (s.setQueue c q).queue d = if d = c then q else s.queue d := entry_put _ _ _ _
theorem State.flight_setFlight (c d : Slot) (f : Option Flight) :
    (s.setFlight c f).flight d = if d = c then f else s.flight d := entry_put _ _ _ _
theorem State.stand_setStand (c d : Slot) (l m : Lane) (r : Stand) :
    (s.setStand c l r).stand d m = if d = c ∧ m = l then r else s.stand d m := by
  by_cases h : d = c
  · subst h
    by_cases k : m = l <;> simp [State.setStand, State.stand, entry_put, k]
  · simp [State.setStand, State.stand, entry_put, h]
@[simp] theorem State.crane_setCrane_same (c : Slot) (r : CraneRecord) : (s.setCrane c r).crane c = r :=
  entry_put_same _ _ _
@[simp] theorem State.spanOf_setSpan_same (c : Slot) (r : SpanRecord) : (s.setSpan c r).spanOf c = r :=
  entry_put_same _ _ _
@[simp] theorem State.gang_setGang_same (g : GangId) (r : Gang) : (s.setGang g r).gang g = r := entry_put_same _ _ _
@[simp] theorem State.queue_setQueue_same (c : Slot) (q : List MoveRecord) : (s.setQueue c q).queue c = q :=
  entry_put_same _ _ _
@[simp] theorem State.flight_setFlight_same (c : Slot) (f : Option Flight) : (s.setFlight c f).flight c = f :=
  entry_put_same _ _ _
@[simp] theorem State.stand_setStand_same (c : Slot) (l : Lane) (r : Stand) : (s.setStand c l r).stand c l = r := by
  simp [State.stand_setStand]

/-- A section read after a change of one section: only that section, if there is one, is changed. -/
theorem State.sectionAt_changeSection (i j : Nat) (f : Section → Section) :
    (s.changeSection i f).section? j = if j = i then (s.section? i).map f else s.section? j := by
  cases i with
  | zero => cases j <;> simp [State.changeSection, State.section?]
  | succ n =>
    cases j with
    | zero => simp [State.section?]
    | succ m =>
      by_cases h : m = n
      · subst h; simp [State.changeSection, State.section?]
      · have h' : n ≠ m := fun e => h e.symm
        simp [State.changeSection, State.section?, h, h']

/-- Changing a section keeps the number of sections. -/
@[simp] theorem State.sections_changeSection_length (i : Nat) (f : Section → Section) :
    (s.changeSection i f).sections.length = s.sections.length := by
  cases i <;> simp [State.changeSection]

/-- A port read after a write of a port. -/
theorem State.port_setPort (p q : PortId) (r : Port) : (s.setPort p r).port q = if q = p then r else s.port q := by
  cases p with
  | crane c =>
    cases q with
    | crane d =>
      by_cases h : d = c
      · subst h; simp [State.setPort, State.port]
      · simp [State.setPort, State.port, entry_put, h]
    | lane => simp [State.setPort, State.port]
    | gang => simp [State.setPort, State.port]
    | plan => simp [State.setPort, State.port]
  | lane => cases q <;> simp [State.setPort, State.port]
  | gang => cases q <;> simp [State.setPort, State.port]
  | plan => cases q <;> simp [State.setPort, State.port]

@[simp] theorem State.port_setPort_same (p : PortId) (r : Port) : (s.setPort p r).port p = r := by
  simp [State.port_setPort]

@[simp] theorem State.setPort_port_same (p : PortId) : s.setPort p (s.port p) = s := by
  cases p <;> simp [State.setPort, State.port]

@[simp] theorem State.setPort_setPort (p : PortId) (r t : Port) : (s.setPort p r).setPort p t = s.setPort p t := by
  cases p <;> simp [State.setPort]

end Sys2Proof.Machine
end

