-- ==== Sys2Proof/Laws/Frames.lean ====
section
/-! SUPPORT. What the shared operations leave alone: for each one lemma that names the only fields it can change,
and from it one lemma per field it keeps. -/

namespace Sys2Proof.Machine

/-- What each step of a fold leaves alone, the fold leaves alone. -/
theorem foldl_keeps {α β : Type} (f : State → α → State) (get : State → β) (h : ∀ s a, get (f s a) = get s)
    (l : List α) (s : State) : get (l.foldl f s) = get s := by
  induction l generalizing s with
  | nil => rfl
  | cons a rest ih => rw [List.foldl_cons, ih, h]

/-- Where each step of a fold is a change of the fields that `upd` puts back, so is the fold. -/
theorem foldl_only {α : Type} (f : State → α → State) (upd : State → State → State)
    (hself : ∀ s, upd s s = s) (htrans : ∀ s t u, upd (upd s t) u = upd s u)
    (h : ∀ s a, f s a = upd s (f s a)) (l : List α) (s : State) : l.foldl f s = upd s (l.foldl f s) := by
  induction l generalizing s with
  | nil => exact (hself s).symm
  | cons a rest ih =>
    rw [List.foldl_cons]
    calc rest.foldl f (f s a) = upd (f s a) (rest.foldl f (f s a)) := ih _
      _ = upd (upd s (f s a)) (rest.foldl f (f s a)) := by rw [← h]
      _ = upd s (rest.foldl f (f s a)) := htrans ..

variable (s : State)

/-! ### The single changes -/

theorem State.setPort_only (p : PortId) (r : Port) : s.setPort p r =
    { s with cranePorts := (s.setPort p r).cranePorts, lanePort := (s.setPort p r).lanePort, gangPort := (s.setPort p r).gangPort, planPort := (s.setPort p r).planPort } := by
  cases p <;> rfl
theorem State.changeSection_only (i : Nat) (f : Section → Section) : s.changeSection i f =
    { s with sections := (s.changeSection i f).sections } := by
  cases i <;> rfl

theorem State.send_lane_only (t : Telegram) : s.send .lane t = { s with lanePort := (s.send .lane t).lanePort } := by
  unfold State.send; split <;> rfl
theorem State.send_gang_only (t : Telegram) : s.send .gang t = { s with gangPort := (s.send .gang t).gangPort } := by
  unfold State.send; split <;> rfl
theorem State.send_crane_only (c : Slot) (t : Telegram) : s.send (.crane c) t =
    { s with cranePorts := (s.send (.crane c) t).cranePorts } := by
  unfold State.send; split <;> rfl
theorem State.makeCall_only (c : Slot) (f : Flight) (m : MoveRecord) (l : Lane) : s.makeCall c f m l =
    { s with pointers := (s.makeCall c f m l).pointers, callCounter := (s.makeCall c f m l).callCounter,
             stands := (s.makeCall c f m l).stands, flights := (s.makeCall c f m l).flights,
             lanePort := (s.makeCall c f m l).lanePort } := by
  unfold State.makeCall; rw [State.send_lane_only]; rfl
theorem State.cancelStand_only (c : Slot) (l : Lane) : s.cancelStand c l =
    { s with stands := (s.cancelStand c l).stands, lanePort := (s.cancelStand c l).lanePort } := by
  unfold State.cancelStand; split
  · rw [State.send_lane_only]; rfl
  · rfl
theorem State.departStand_only (c : Slot) (l : Lane) : s.departStand c l =
    { s with stands := (s.departStand c l).stands, lanePort := (s.departStand c l).lanePort } := by
  unfold State.departStand; split
  · rw [State.send_lane_only]; rfl
  · rfl
theorem State.boardWaiting_only (g : GangId) (i : Nat) : s.boardWaiting g i =
    { s with gangs := (s.boardWaiting g i).gangs, gangPort := (s.boardWaiting g i).gangPort } := by
  unfold State.boardWaiting; rw [State.send_gang_only]; split <;> rfl

/-! ### raise -/

/-- `raise` can change no other field. -/
theorem State.raise_only (al : Alert) (de : AlertDetail) : s.raise al de =
    { s with alerts := (s.raise al de).alerts, attn := (s.raise al de).attn } := by
  unfold State.raise; split <;> rfl
@[simp] theorem State.raise_pending (al : Alert) (de : AlertDetail) : (s.raise al de).pending = s.pending :=
  by rw [State.raise_only]
@[simp] theorem State.raise_clock (al : Alert) (de : AlertDetail) : (s.raise al de).clock = s.clock :=
  by rw [State.raise_only]
@[simp] theorem State.raise_mode (al : Alert) (de : AlertDetail) : (s.raise al de).mode = s.mode :=
  by rw [State.raise_only]
@[simp] theorem State.raise_config (al : Alert) (de : AlertDetail) : (s.raise al de).config = s.config :=
  by rw [State.raise_only]
@[simp] theorem State.raise_overrides (al : Alert) (de : AlertDetail) : (s.raise al de).overrides = s.overrides :=
  by rw [State.raise_only]
@[simp] theorem State.raise_cranes (al : Alert) (de : AlertDetail) : (s.raise al de).cranes = s.cranes :=
  by rw [State.raise_only]
@[simp] theorem State.raise_span (al : Alert) (de : AlertDetail) : (s.raise al de).span = s.span :=
  by rw [State.raise_only]
@[simp] theorem State.raise_watches (al : Alert) (de : AlertDetail) : (s.raise al de).watches = s.watches :=
  by rw [State.raise_only]
@[simp] theorem State.raise_sensorLevels (al : Alert) (de : AlertDetail) :
    (s.raise al de).sensorLevels = s.sensorLevels :=
  by rw [State.raise_only]
@[simp] theorem State.raise_latches (al : Alert) (de : AlertDetail) : (s.raise al de).latches = s.latches :=
  by rw [State.raise_only]
@[simp] theorem State.raise_haltLine (al : Alert) (de : AlertDetail) : (s.raise al de).haltLine = s.haltLine :=
  by rw [State.raise_only]
@[simp] theorem State.raise_halted (al : Alert) (de : AlertDetail) : (s.raise al de).halted = s.halted :=
  by rw [State.raise_only]
@[simp] theorem State.raise_vessel (al : Alert) (de : AlertDetail) : (s.raise al de).vessel = s.vessel :=
  by rw [State.raise_only]
@[simp] theorem State.raise_sections (al : Alert) (de : AlertDetail) : (s.raise al de).sections = s.sections :=
  by rw [State.raise_only]
@[simp] theorem State.raise_gangs (al : Alert) (de : AlertDetail) : (s.raise al de).gangs = s.gangs :=
  by rw [State.raise_only]
@[simp] theorem State.raise_queues (al : Alert) (de : AlertDetail) : (s.raise al de).queues = s.queues :=
  by rw [State.raise_only]
@[simp] theorem State.raise_cursor (al : Alert) (de : AlertDetail) : (s.raise al de).cursor = s.cursor :=
  by rw [State.raise_only]
@[simp] theorem State.raise_flights (al : Alert) (de : AlertDetail) : (s.raise al de).flights = s.flights :=
  by rw [State.raise_only]
@[simp] theorem State.raise_stands (al : Alert) (de : AlertDetail) : (s.raise al de).stands = s.stands :=
  by rw [State.raise_only]
@[simp] theorem State.raise_laneMask (al : Alert) (de : AlertDetail) : (s.raise al de).laneMask = s.laneMask :=
  by rw [State.raise_only]
@[simp] theorem State.raise_pointers (al : Alert) (de : AlertDetail) : (s.raise al de).pointers = s.pointers :=
  by rw [State.raise_only]
@[simp] theorem State.raise_callCounter (al : Alert) (de : AlertDetail) :
    (s.raise al de).callCounter = s.callCounter :=
  by rw [State.raise_only]
@[simp] theorem State.raise_log (al : Alert) (de : AlertDetail) : (s.raise al de).log = s.log :=
  by rw [State.raise_only]
@[simp] theorem State.raise_backlog (al : Alert) (de : AlertDetail) : (s.raise al de).backlog = s.backlog :=
  by rw [State.raise_only]
@[simp] theorem State.raise_cranePorts (al : Alert) (de : AlertDetail) : (s.raise al de).cranePorts = s.cranePorts :=
  by rw [State.raise_only]
@[simp] theorem State.raise_lanePort (al : Alert) (de : AlertDetail) : (s.raise al de).lanePort = s.lanePort :=
  by rw [State.raise_only]
@[simp] theorem State.raise_gangPort (al : Alert) (de : AlertDetail) : (s.raise al de).gangPort = s.gangPort :=
  by rw [State.raise_only]
@[simp] theorem State.raise_planPort (al : Alert) (de : AlertDetail) : (s.raise al de).planPort = s.planPort :=
  by rw [State.raise_only]
@[simp] theorem State.raise_crane (al : Alert) (de : AlertDetail) (d : Slot) : (s.raise al de).crane d = s.crane d :=
  by simp only [State.crane, State.raise_cranes]
@[simp] theorem State.raise_spanOf (al : Alert) (de : AlertDetail) (d : Slot) :
    (s.raise al de).spanOf d = s.spanOf d :=
  by simp only [State.spanOf, State.raise_span]
@[simp] theorem State.raise_override (al : Alert) (de : AlertDetail) (d : Slot) :
    (s.raise al de).override d = s.override d :=
  by simp only [State.override, State.raise_overrides]
@[simp] theorem State.raise_watch (al : Alert) (de : AlertDetail) (d : Slot) : (s.raise al de).watch d = s.watch d :=
  by simp only [State.watch, State.raise_watches]
@[simp] theorem State.raise_gang (al : Alert) (de : AlertDetail) (h : GangId) : (s.raise al de).gang h = s.gang h :=
  by simp only [State.gang, State.raise_gangs]
@[simp] theorem State.raise_queue (al : Alert) (de : AlertDetail) (d : Slot) : (s.raise al de).queue d = s.queue d :=
  by simp only [State.queue, State.raise_queues]
@[simp] theorem State.raise_flight (al : Alert) (de : AlertDetail) (d : Slot) :
    (s.raise al de).flight d = s.flight d :=
  by simp only [State.flight, State.raise_flights]
@[simp] theorem State.raise_stand (al : Alert) (de : AlertDetail) (d : Slot) (m : Lane) :
    (s.raise al de).stand d m = s.stand d m :=
  by simp only [State.stand, State.raise_stands]
@[simp] theorem State.raise_pointer (al : Alert) (de : AlertDetail) (d : Slot) :
    (s.raise al de).pointer d = s.pointer d :=
  by simp only [State.pointer, State.raise_pointers]
@[simp] theorem State.raise_sectionAt (al : Alert) (de : AlertDetail) (j : Nat) :
    (s.raise al de).section? j = s.section? j :=
  by simp only [State.section?, State.raise_sections]
@[simp] theorem State.raise_fitted (al : Alert) (de : AlertDetail) (d : Slot) :
    (s.raise al de).fitted d = s.fitted d :=
  by simp only [State.fitted, State.raise_config]
@[simp] theorem State.raise_concern (al : Alert) (de : AlertDetail) (d : Slot) :
    (s.raise al de).concern d = s.concern d := by
  simp only [State.concern, State.west, State.east, State.raise_fitted, State.raise_config]
@[simp] theorem State.raise_port (al : Alert) (de : AlertDetail) (q : PortId) : (s.raise al de).port q = s.port q := by
  simp only [State.port, State.raise_cranePorts, State.raise_lanePort, State.raise_gangPort, State.raise_planPort]

/-! ### raiseFor -/

/-- `raiseFor` can change no other field. -/
theorem State.raiseFor_only (a : Alert) (ns : List Nat) (k : Nat → AlertDetail) : s.raiseFor a ns k =
    { s with alerts := (s.raiseFor a ns k).alerts, attn := (s.raiseFor a ns k).attn } := by
  unfold State.raiseFor; split <;> first | rfl | exact State.raise_only ..
@[simp] theorem State.raiseFor_pending (a : Alert) (ns : List Nat) (k : Nat → AlertDetail) :
    (s.raiseFor a ns k).pending = s.pending :=
  by rw [State.raiseFor_only]
@[simp] theorem State.raiseFor_clock (a : Alert) (ns : List Nat) (k : Nat → AlertDetail) :
    (s.raiseFor a ns k).clock = s.clock :=
  by rw [State.raiseFor_only]
@[simp] theorem State.raiseFor_mode (a : Alert) (ns : List Nat) (k : Nat → AlertDetail) :
    (s.raiseFor a ns k).mode = s.mode :=
  by rw [State.raiseFor_only]
@[simp] theorem State.raiseFor_config (a : Alert) (ns : List Nat) (k : Nat → AlertDetail) :
    (s.raiseFor a ns k).config = s.config :=
  by rw [State.raiseFor_only]
@[simp] theorem State.raiseFor_overrides (a : Alert) (ns : List Nat) (k : Nat → AlertDetail) :
    (s.raiseFor a ns k).overrides = s.overrides :=
  by rw [State.raiseFor_only]
@[simp] theorem State.raiseFor_cranes (a : Alert) (ns : List Nat) (k : Nat → AlertDetail) :
    (s.raiseFor a ns k).cranes = s.cranes :=
  by rw [State.raiseFor_only]
@[simp] theorem State.raiseFor_span (a : Alert) (ns : List Nat) (k : Nat → AlertDetail) :
    (s.raiseFor a ns k).span = s.span :=
  by rw [State.raiseFor_only]
@[simp] theorem State.raiseFor_watches (a : Alert) (ns : List Nat) (k : Nat → AlertDetail) :
    (s.raiseFor a ns k).watches = s.watches :=
  by rw [State.raiseFor_only]
@[simp] theorem State.raiseFor_sensorLevels (a : Alert) (ns : List Nat) (k : Nat → AlertDetail) :
    (s.raiseFor a ns k).sensorLevels = s.sensorLevels :=
  by rw [State.raiseFor_only]
@[simp] theorem State.raiseFor_latches (a : Alert) (ns : List Nat) (k : Nat → AlertDetail) :
    (s.raiseFor a ns k).latches = s.latches :=
  by rw [State.raiseFor_only]
@[simp] theorem State.raiseFor_haltLine (a : Alert) (ns : List Nat) (k : Nat → AlertDetail) :
    (s.raiseFor a ns k).haltLine = s.haltLine :=
  by rw [State.raiseFor_only]
@[simp] theorem State.raiseFor_halted (a : Alert) (ns : List Nat) (k : Nat → AlertDetail) :
    (s.raiseFor a ns k).halted = s.halted :=
  by rw [State.raiseFor_only]
@[simp] theorem State.raiseFor_vessel (a : Alert) (ns : List Nat) (k : Nat → AlertDetail) :
    (s.raiseFor a ns k).vessel = s.vessel :=
  by rw [State.raiseFor_only]
@[simp] theorem State.raiseFor_sections (a : Alert) (ns : List Nat) (k : Nat → AlertDetail) :
    (s.raiseFor a ns k).sections = s.sections :=
  by rw [State.raiseFor_only]
@[simp] theorem State.raiseFor_gangs (a : Alert) (ns : List Nat) (k : Nat → AlertDetail) :
    (s.raiseFor a ns k).gangs = s.gangs :=
  by rw [State.raiseFor_only]
@[simp] theorem State.raiseFor_queues (a : Alert) (ns : List Nat) (k : Nat → AlertDetail) :
    (s.raiseFor a ns k).queues = s.queues :=
  by rw [State.raiseFor_only]
@[simp] theorem State.raiseFor_cursor (a : Alert) (ns : List Nat) (k : Nat → AlertDetail) :
    (s.raiseFor a ns k).cursor = s.cursor :=
  by rw [State.raiseFor_only]
@[simp] theorem State.raiseFor_flights (a : Alert) (ns : List Nat) (k : Nat → AlertDetail) :
    (s.raiseFor a ns k).flights = s.flights :=
  by rw [State.raiseFor_only]
@[simp] theorem State.raiseFor_stands (a : Alert) (ns : List Nat) (k : Nat → AlertDetail) :
    (s.raiseFor a ns k).stands = s.stands :=
  by rw [State.raiseFor_only]
@[simp] theorem State.raiseFor_laneMask (a : Alert) (ns : List Nat) (k : Nat → AlertDetail) :
    (s.raiseFor a ns k).laneMask = s.laneMask :=
  by rw [State.raiseFor_only]
@[simp] theorem State.raiseFor_pointers (a : Alert) (ns : List Nat) (k : Nat → AlertDetail) :
    (s.raiseFor a ns k).pointers = s.pointers :=
  by rw [State.raiseFor_only]
@[simp] theorem State.raiseFor_callCounter (a : Alert) (ns : List Nat) (k : Nat → AlertDetail) :
    (s.raiseFor a ns k).callCounter = s.callCounter :=
  by rw [State.raiseFor_only]
@[simp] theorem State.raiseFor_log (a : Alert) (ns : List Nat) (k : Nat → AlertDetail) :
    (s.raiseFor a ns k).log = s.log :=
  by rw [State.raiseFor_only]
@[simp] theorem State.raiseFor_backlog (a : Alert) (ns : List Nat) (k : Nat → AlertDetail) :
    (s.raiseFor a ns k).backlog = s.backlog :=
  by rw [State.raiseFor_only]
@[simp] theorem State.raiseFor_cranePorts (a : Alert) (ns : List Nat) (k : Nat → AlertDetail) :
    (s.raiseFor a ns k).cranePorts = s.cranePorts :=
  by rw [State.raiseFor_only]
@[simp] theorem State.raiseFor_lanePort (a : Alert) (ns : List Nat) (k : Nat → AlertDetail) :
    (s.raiseFor a ns k).lanePort = s.lanePort :=
  by rw [State.raiseFor_only]
@[simp] theorem State.raiseFor_gangPort (a : Alert) (ns : List Nat) (k : Nat → AlertDetail) :
    (s.raiseFor a ns k).gangPort = s.gangPort :=
  by rw [State.raiseFor_only]
@[simp] theorem State.raiseFor_planPort (a : Alert) (ns : List Nat) (k : Nat → AlertDetail) :
    (s.raiseFor a ns k).planPort = s.planPort :=
  by rw [State.raiseFor_only]
@[simp] theorem State.raiseFor_crane (a : Alert) (ns : List Nat) (k : Nat → AlertDetail) (d : Slot) :
    (s.raiseFor a ns k).crane d = s.crane d :=
  by simp only [State.crane, State.raiseFor_cranes]
@[simp] theorem State.raiseFor_spanOf (a : Alert) (ns : List Nat) (k : Nat → AlertDetail) (d : Slot) :
    (s.raiseFor a ns k).spanOf d = s.spanOf d :=
  by simp only [State.spanOf, State.raiseFor_span]
@[simp] theorem State.raiseFor_override (a : Alert) (ns : List Nat) (k : Nat → AlertDetail) (d : Slot) :
    (s.raiseFor a ns k).override d = s.override d :=
  by simp only [State.override, State.raiseFor_overrides]
@[simp] theorem State.raiseFor_watch (a : Alert) (ns : List Nat) (k : Nat → AlertDetail) (d : Slot) :
    (s.raiseFor a ns k).watch d = s.watch d :=
  by simp only [State.watch, State.raiseFor_watches]
@[simp] theorem State.raiseFor_gang (a : Alert) (ns : List Nat) (k : Nat → AlertDetail) (h : GangId) :
    (s.raiseFor a ns k).gang h = s.gang h :=
  by simp only [State.gang, State.raiseFor_gangs]
@[simp] theorem State.raiseFor_queue (a : Alert) (ns : List Nat) (k : Nat → AlertDetail) (d : Slot) :
    (s.raiseFor a ns k).queue d = s.queue d :=
  by simp only [State.queue, State.raiseFor_queues]
@[simp] theorem State.raiseFor_flight (a : Alert) (ns : List Nat) (k : Nat → AlertDetail) (d : Slot) :
    (s.raiseFor a ns k).flight d = s.flight d :=
  by simp only [State.flight, State.raiseFor_flights]
@[simp] theorem State.raiseFor_stand (a : Alert) (ns : List Nat) (k : Nat → AlertDetail) (d : Slot) (m : Lane) :
    (s.raiseFor a ns k).stand d m = s.stand d m :=
  by simp only [State.stand, State.raiseFor_stands]
@[simp] theorem State.raiseFor_pointer (a : Alert) (ns : List Nat) (k : Nat → AlertDetail) (d : Slot) :
    (s.raiseFor a ns k).pointer d = s.pointer d :=
  by simp only [State.pointer, State.raiseFor_pointers]
@[simp] theorem State.raiseFor_sectionAt (a : Alert) (ns : List Nat) (k : Nat → AlertDetail) (j : Nat) :
    (s.raiseFor a ns k).section? j = s.section? j :=
  by simp only [State.section?, State.raiseFor_sections]
@[simp] theorem State.raiseFor_fitted (a : Alert) (ns : List Nat) (k : Nat → AlertDetail) (d : Slot) :
    (s.raiseFor a ns k).fitted d = s.fitted d :=
  by simp only [State.fitted, State.raiseFor_config]
@[simp] theorem State.raiseFor_concern (a : Alert) (ns : List Nat) (k : Nat → AlertDetail) (d : Slot) :
    (s.raiseFor a ns k).concern d = s.concern d := by
  simp only [State.concern, State.west, State.east, State.raiseFor_fitted, State.raiseFor_config]
@[simp] theorem State.raiseFor_port (a : Alert) (ns : List Nat) (k : Nat → AlertDetail) (q : PortId) :
    (s.raiseFor a ns k).port q = s.port q := by
  simp only [State.port, State.raiseFor_cranePorts, State.raiseFor_lanePort, State.raiseFor_gangPort, State.raiseFor_planPort]

/-! ### reevaluate -/

/-- `reevaluate` can change no other field. -/
theorem State.reevaluate_only (cs : List Slot) : s.reevaluate cs =
    { s with span := (s.reevaluate cs).span, watches := (s.reevaluate cs).watches, alerts := (s.reevaluate cs).alerts, attn := (s.reevaluate cs).attn } := by
  rw [State.reevaluate, State.raiseFor_only]; rfl
@[simp] theorem State.reevaluate_pending (cs : List Slot) : (s.reevaluate cs).pending = s.pending :=
  by rw [State.reevaluate_only]
@[simp] theorem State.reevaluate_clock (cs : List Slot) : (s.reevaluate cs).clock = s.clock :=
  by rw [State.reevaluate_only]
@[simp] theorem State.reevaluate_mode (cs : List Slot) : (s.reevaluate cs).mode = s.mode :=
  by rw [State.reevaluate_only]
@[simp] theorem State.reevaluate_config (cs : List Slot) : (s.reevaluate cs).config = s.config :=
  by rw [State.reevaluate_only]
@[simp] theorem State.reevaluate_overrides (cs : List Slot) : (s.reevaluate cs).overrides = s.overrides :=
  by rw [State.reevaluate_only]
@[simp] theorem State.reevaluate_cranes (cs : List Slot) : (s.reevaluate cs).cranes = s.cranes :=
  by rw [State.reevaluate_only]
@[simp] theorem State.reevaluate_sensorLevels (cs : List Slot) : (s.reevaluate cs).sensorLevels = s.sensorLevels :=
  by rw [State.reevaluate_only]
@[simp] theorem State.reevaluate_latches (cs : List Slot) : (s.reevaluate cs).latches = s.latches :=
  by rw [State.reevaluate_only]
@[simp] theorem State.reevaluate_haltLine (cs : List Slot) : (s.reevaluate cs).haltLine = s.haltLine :=
  by rw [State.reevaluate_only]
@[simp] theorem State.reevaluate_halted (cs : List Slot) : (s.reevaluate cs).halted = s.halted :=
  by rw [State.reevaluate_only]
@[simp] theorem State.reevaluate_vessel (cs : List Slot) : (s.reevaluate cs).vessel = s.vessel :=
  by rw [State.reevaluate_only]
@[simp] theorem State.reevaluate_sections (cs : List Slot) : (s.reevaluate cs).sections = s.sections :=
  by rw [State.reevaluate_only]
@[simp] theorem State.reevaluate_gangs (cs : List Slot) : (s.reevaluate cs).gangs = s.gangs :=
  by rw [State.reevaluate_only]
@[simp] theorem State.reevaluate_queues (cs : List Slot) : (s.reevaluate cs).queues = s.queues :=
  by rw [State.reevaluate_only]
@[simp] theorem State.reevaluate_cursor (cs : List Slot) : (s.reevaluate cs).cursor = s.cursor :=
  by rw [State.reevaluate_only]
@[simp] theorem State.reevaluate_flights (cs : List Slot) : (s.reevaluate cs).flights = s.flights :=
  by rw [State.reevaluate_only]
@[simp] theorem State.reevaluate_stands (cs : List Slot) : (s.reevaluate cs).stands = s.stands :=
  by rw [State.reevaluate_only]
@[simp] theorem State.reevaluate_laneMask (cs : List Slot) : (s.reevaluate cs).laneMask = s.laneMask :=
  by rw [State.reevaluate_only]
@[simp] theorem State.reevaluate_pointers (cs : List Slot) : (s.reevaluate cs).pointers = s.pointers :=
  by rw [State.reevaluate_only]
@[simp] theorem State.reevaluate_callCounter (cs : List Slot) : (s.reevaluate cs).callCounter = s.callCounter :=
  by rw [State.reevaluate_only]
@[simp] theorem State.reevaluate_log (cs : List Slot) : (s.reevaluate cs).log = s.log := by rw [State.reevaluate_only]
@[simp] theorem State.reevaluate_backlog (cs : List Slot) : (s.reevaluate cs).backlog = s.backlog :=
  by rw [State.reevaluate_only]
@[simp] theorem State.reevaluate_cranePorts (cs : List Slot) : (s.reevaluate cs).cranePorts = s.cranePorts :=
  by rw [State.reevaluate_only]
@[simp] theorem State.reevaluate_lanePort (cs : List Slot) : (s.reevaluate cs).lanePort = s.lanePort :=
  by rw [State.reevaluate_only]
@[simp] theorem State.reevaluate_gangPort (cs : List Slot) : (s.reevaluate cs).gangPort = s.gangPort :=
  by rw [State.reevaluate_only]
@[simp] theorem State.reevaluate_planPort (cs : List Slot) : (s.reevaluate cs).planPort = s.planPort :=
  by rw [State.reevaluate_only]
@[simp] theorem State.reevaluate_crane (cs : List Slot) (d : Slot) : (s.reevaluate cs).crane d = s.crane d :=
  by simp only [State.crane, State.reevaluate_cranes]
@[simp] theorem State.reevaluate_override (cs : List Slot) (d : Slot) : (s.reevaluate cs).override d = s.override d :=
  by simp only [State.override, State.reevaluate_overrides]
@[simp] theorem State.reevaluate_gang (cs : List Slot) (h : GangId) : (s.reevaluate cs).gang h = s.gang h :=
  by simp only [State.gang, State.reevaluate_gangs]
@[simp] theorem State.reevaluate_queue (cs : List Slot) (d : Slot) : (s.reevaluate cs).queue d = s.queue d :=
  by simp only [State.queue, State.reevaluate_queues]
@[simp] theorem State.reevaluate_flight (cs : List Slot) (d : Slot) : (s.reevaluate cs).flight d = s.flight d :=
  by simp only [State.flight, State.reevaluate_flights]
@[simp] theorem State.reevaluate_stand (cs : List Slot) (d : Slot) (m : Lane) :
    (s.reevaluate cs).stand d m = s.stand d m :=
  by simp only [State.stand, State.reevaluate_stands]
@[simp] theorem State.reevaluate_pointer (cs : List Slot) (d : Slot) : (s.reevaluate cs).pointer d = s.pointer d :=
  by simp only [State.pointer, State.reevaluate_pointers]
@[simp] theorem State.reevaluate_sectionAt (cs : List Slot) (j : Nat) : (s.reevaluate cs).section? j = s.section? j :=
  by simp only [State.section?, State.reevaluate_sections]
@[simp] theorem State.reevaluate_fitted (cs : List Slot) (d : Slot) : (s.reevaluate cs).fitted d = s.fitted d :=
  by simp only [State.fitted, State.reevaluate_config]
@[simp] theorem State.reevaluate_concern (cs : List Slot) (d : Slot) : (s.reevaluate cs).concern d = s.concern d := by
  simp only [State.concern, State.west, State.east, State.reevaluate_fitted, State.reevaluate_config]
@[simp] theorem State.reevaluate_port (cs : List Slot) (q : PortId) : (s.reevaluate cs).port q = s.port q := by
  simp only [State.port, State.reevaluate_cranePorts, State.reevaluate_lanePort, State.reevaluate_gangPort, State.reevaluate_planPort]

/-! ### send -/

/-- `send` can change no other field. -/
theorem State.send_only (p : PortId) (t : Telegram) : s.send p t =
    { s with cranePorts := (s.send p t).cranePorts, lanePort := (s.send p t).lanePort, gangPort := (s.send p t).gangPort, planPort := (s.send p t).planPort } := by
  unfold State.send; split
  · exact s.setPort_only ..
  · rfl
@[simp] theorem State.send_pending (p : PortId) (t : Telegram) : (s.send p t).pending = s.pending :=
  by rw [State.send_only]
@[simp] theorem State.send_clock (p : PortId) (t : Telegram) : (s.send p t).clock = s.clock := by rw [State.send_only]
@[simp] theorem State.send_mode (p : PortId) (t : Telegram) : (s.send p t).mode = s.mode := by rw [State.send_only]
@[simp] theorem State.send_config (p : PortId) (t : Telegram) : (s.send p t).config = s.config :=
  by rw [State.send_only]
@[simp] theorem State.send_overrides (p : PortId) (t : Telegram) : (s.send p t).overrides = s.overrides :=
  by rw [State.send_only]
@[simp] theorem State.send_cranes (p : PortId) (t : Telegram) : (s.send p t).cranes = s.cranes :=
  by rw [State.send_only]
@[simp] theorem State.send_span (p : PortId) (t : Telegram) : (s.send p t).span = s.span := by rw [State.send_only]
@[simp] theorem State.send_watches (p : PortId) (t : Telegram) : (s.send p t).watches = s.watches :=
  by rw [State.send_only]
@[simp] theorem State.send_sensorLevels (p : PortId) (t : Telegram) : (s.send p t).sensorLevels = s.sensorLevels :=
  by rw [State.send_only]
@[simp] theorem State.send_latches (p : PortId) (t : Telegram) : (s.send p t).latches = s.latches :=
  by rw [State.send_only]
@[simp] theorem State.send_haltLine (p : PortId) (t : Telegram) : (s.send p t).haltLine = s.haltLine :=
  by rw [State.send_only]
@[simp] theorem State.send_halted (p : PortId) (t : Telegram) : (s.send p t).halted = s.halted :=
  by rw [State.send_only]
@[simp] theorem State.send_vessel (p : PortId) (t : Telegram) : (s.send p t).vessel = s.vessel :=
  by rw [State.send_only]
@[simp] theorem State.send_sections (p : PortId) (t : Telegram) : (s.send p t).sections = s.sections :=
  by rw [State.send_only]
@[simp] theorem State.send_gangs (p : PortId) (t : Telegram) : (s.send p t).gangs = s.gangs := by rw [State.send_only]
@[simp] theorem State.send_queues (p : PortId) (t : Telegram) : (s.send p t).queues = s.queues :=
  by rw [State.send_only]
@[simp] theorem State.send_cursor (p : PortId) (t : Telegram) : (s.send p t).cursor = s.cursor :=
  by rw [State.send_only]
@[simp] theorem State.send_flights (p : PortId) (t : Telegram) : (s.send p t).flights = s.flights :=
  by rw [State.send_only]
@[simp] theorem State.send_stands (p : PortId) (t : Telegram) : (s.send p t).stands = s.stands :=
  by rw [State.send_only]
@[simp] theorem State.send_laneMask (p : PortId) (t : Telegram) : (s.send p t).laneMask = s.laneMask :=
  by rw [State.send_only]
@[simp] theorem State.send_pointers (p : PortId) (t : Telegram) : (s.send p t).pointers = s.pointers :=
  by rw [State.send_only]
@[simp] theorem State.send_callCounter (p : PortId) (t : Telegram) : (s.send p t).callCounter = s.callCounter :=
  by rw [State.send_only]
@[simp] theorem State.send_log (p : PortId) (t : Telegram) : (s.send p t).log = s.log := by rw [State.send_only]
@[simp] theorem State.send_backlog (p : PortId) (t : Telegram) : (s.send p t).backlog = s.backlog :=
  by rw [State.send_only]
@[simp] theorem State.send_alerts (p : PortId) (t : Telegram) : (s.send p t).alerts = s.alerts :=
  by rw [State.send_only]
@[simp] theorem State.send_attn (p : PortId) (t : Telegram) : (s.send p t).attn = s.attn := by rw [State.send_only]
@[simp] theorem State.send_crane (p : PortId) (t : Telegram) (d : Slot) : (s.send p t).crane d = s.crane d :=
  by simp only [State.crane, State.send_cranes]
@[simp] theorem State.send_spanOf (p : PortId) (t : Telegram) (d : Slot) : (s.send p t).spanOf d = s.spanOf d :=
  by simp only [State.spanOf, State.send_span]
@[simp] theorem State.send_override (p : PortId) (t : Telegram) (d : Slot) : (s.send p t).override d = s.override d :=
  by simp only [State.override, State.send_overrides]
@[simp] theorem State.send_watch (p : PortId) (t : Telegram) (d : Slot) : (s.send p t).watch d = s.watch d :=
  by simp only [State.watch, State.send_watches]
@[simp] theorem State.send_gang (p : PortId) (t : Telegram) (h : GangId) : (s.send p t).gang h = s.gang h :=
  by simp only [State.gang, State.send_gangs]
@[simp] theorem State.send_queue (p : PortId) (t : Telegram) (d : Slot) : (s.send p t).queue d = s.queue d :=
  by simp only [State.queue, State.send_queues]
@[simp] theorem State.send_flight (p : PortId) (t : Telegram) (d : Slot) : (s.send p t).flight d = s.flight d :=
  by simp only [State.flight, State.send_flights]
@[simp] theorem State.send_stand (p : PortId) (t : Telegram) (d : Slot) (m : Lane) :
    (s.send p t).stand d m = s.stand d m :=
  by simp only [State.stand, State.send_stands]
@[simp] theorem State.send_pointer (p : PortId) (t : Telegram) (d : Slot) : (s.send p t).pointer d = s.pointer d :=
  by simp only [State.pointer, State.send_pointers]
@[simp] theorem State.send_alert (p : PortId) (t : Telegram) (x : Alert) : (s.send p t).alert x = s.alert x :=
  by simp only [State.alert, State.send_alerts]
@[simp] theorem State.send_sectionAt (p : PortId) (t : Telegram) (j : Nat) : (s.send p t).section? j = s.section? j :=
  by simp only [State.section?, State.send_sections]
@[simp] theorem State.send_fitted (p : PortId) (t : Telegram) (d : Slot) : (s.send p t).fitted d = s.fitted d :=
  by simp only [State.fitted, State.send_config]
@[simp] theorem State.send_concern (p : PortId) (t : Telegram) (d : Slot) : (s.send p t).concern d = s.concern d := by
  simp only [State.concern, State.west, State.east, State.send_fitted, State.send_config]

/-! ### insertTelegrams -/

/-- `insertTelegrams` can change no other field. -/
theorem State.insertTelegrams_only (p : PortId) (n : Nat) (ts : List Telegram) : s.insertTelegrams p n ts =
    { s with cranePorts := (s.insertTelegrams p n ts).cranePorts, lanePort := (s.insertTelegrams p n ts).lanePort, gangPort := (s.insertTelegrams p n ts).gangPort, planPort := (s.insertTelegrams p n ts).planPort } := by
  unfold State.insertTelegrams; split
  · exact s.setPort_only ..
  · rfl
@[simp] theorem State.insertTelegrams_pending (p : PortId) (n : Nat) (ts : List Telegram) :
    (s.insertTelegrams p n ts).pending = s.pending :=
  by rw [State.insertTelegrams_only]
@[simp] theorem State.insertTelegrams_clock (p : PortId) (n : Nat) (ts : List Telegram) :
    (s.insertTelegrams p n ts).clock = s.clock :=
  by rw [State.insertTelegrams_only]
@[simp] theorem State.insertTelegrams_mode (p : PortId) (n : Nat) (ts : List Telegram) :
    (s.insertTelegrams p n ts).mode = s.mode :=
  by rw [State.insertTelegrams_only]
@[simp] theorem State.insertTelegrams_config (p : PortId) (n : Nat) (ts : List Telegram) :
    (s.insertTelegrams p n ts).config = s.config :=
  by rw [State.insertTelegrams_only]
@[simp] theorem State.insertTelegrams_overrides (p : PortId) (n : Nat) (ts : List Telegram) :
    (s.insertTelegrams p n ts).overrides = s.overrides :=
  by rw [State.insertTelegrams_only]
@[simp] theorem State.insertTelegrams_cranes (p : PortId) (n : Nat) (ts : List Telegram) :
    (s.insertTelegrams p n ts).cranes = s.cranes :=
  by rw [State.insertTelegrams_only]
@[simp] theorem State.insertTelegrams_span (p : PortId) (n : Nat) (ts : List Telegram) :
    (s.insertTelegrams p n ts).span = s.span :=
  by rw [State.insertTelegrams_only]
@[simp] theorem State.insertTelegrams_watches (p : PortId) (n : Nat) (ts : List Telegram) :
    (s.insertTelegrams p n ts).watches = s.watches :=
  by rw [State.insertTelegrams_only]
@[simp] theorem State.insertTelegrams_sensorLevels (p : PortId) (n : Nat) (ts : List Telegram) :
    (s.insertTelegrams p n ts).sensorLevels = s.sensorLevels :=
  by rw [State.insertTelegrams_only]
@[simp] theorem State.insertTelegrams_latches (p : PortId) (n : Nat) (ts : List Telegram) :
    (s.insertTelegrams p n ts).latches = s.latches :=
  by rw [State.insertTelegrams_only]
@[simp] theorem State.insertTelegrams_haltLine (p : PortId) (n : Nat) (ts : List Telegram) :
    (s.insertTelegrams p n ts).haltLine = s.haltLine :=
  by rw [State.insertTelegrams_only]
@[simp] theorem State.insertTelegrams_halted (p : PortId) (n : Nat) (ts : List Telegram) :
    (s.insertTelegrams p n ts).halted = s.halted :=
  by rw [State.insertTelegrams_only]
@[simp] theorem State.insertTelegrams_vessel (p : PortId) (n : Nat) (ts : List Telegram) :
    (s.insertTelegrams p n ts).vessel = s.vessel :=
  by rw [State.insertTelegrams_only]
@[simp] theorem State.insertTelegrams_sections (p : PortId) (n : Nat) (ts : List Telegram) :
    (s.insertTelegrams p n ts).sections = s.sections :=
  by rw [State.insertTelegrams_only]
@[simp] theorem State.insertTelegrams_gangs (p : PortId) (n : Nat) (ts : List Telegram) :
    (s.insertTelegrams p n ts).gangs = s.gangs :=
  by rw [State.insertTelegrams_only]
@[simp] theorem State.insertTelegrams_queues (p : PortId) (n : Nat) (ts : List Telegram) :
    (s.insertTelegrams p n ts).queues = s.queues :=
  by rw [State.insertTelegrams_only]
@[simp] theorem State.insertTelegrams_cursor (p : PortId) (n : Nat) (ts : List Telegram) :
    (s.insertTelegrams p n ts).cursor = s.cursor :=
  by rw [State.insertTelegrams_only]
@[simp] theorem State.insertTelegrams_flights (p : PortId) (n : Nat) (ts : List Telegram) :
    (s.insertTelegrams p n ts).flights = s.flights :=
  by rw [State.insertTelegrams_only]
@[simp] theorem State.insertTelegrams_stands (p : PortId) (n : Nat) (ts : List Telegram) :
    (s.insertTelegrams p n ts).stands = s.stands :=
  by rw [State.insertTelegrams_only]
@[simp] theorem State.insertTelegrams_laneMask (p : PortId) (n : Nat) (ts : List Telegram) :
    (s.insertTelegrams p n ts).laneMask = s.laneMask :=
  by rw [State.insertTelegrams_only]
@[simp] theorem State.insertTelegrams_pointers (p : PortId) (n : Nat) (ts : List Telegram) :
    (s.insertTelegrams p n ts).pointers = s.pointers :=
  by rw [State.insertTelegrams_only]
@[simp] theorem State.insertTelegrams_callCounter (p : PortId) (n : Nat) (ts : List Telegram) :
    (s.insertTelegrams p n ts).callCounter = s.callCounter :=
  by rw [State.insertTelegrams_only]
@[simp] theorem State.insertTelegrams_log (p : PortId) (n : Nat) (ts : List Telegram) :
    (s.insertTelegrams p n ts).log = s.log :=
  by rw [State.insertTelegrams_only]
@[simp] theorem State.insertTelegrams_backlog (p : PortId) (n : Nat) (ts : List Telegram) :
    (s.insertTelegrams p n ts).backlog = s.backlog :=
  by rw [State.insertTelegrams_only]
@[simp] theorem State.insertTelegrams_alerts (p : PortId) (n : Nat) (ts : List Telegram) :
    (s.insertTelegrams p n ts).alerts = s.alerts :=
  by rw [State.insertTelegrams_only]
@[simp] theorem State.insertTelegrams_attn (p : PortId) (n : Nat) (ts : List Telegram) :
    (s.insertTelegrams p n ts).attn = s.attn :=
  by rw [State.insertTelegrams_only]
@[simp] theorem State.insertTelegrams_crane (p : PortId) (n : Nat) (ts : List Telegram) (d : Slot) :
    (s.insertTelegrams p n ts).crane d = s.crane d :=
  by simp only [State.crane, State.insertTelegrams_cranes]
@[simp] theorem State.insertTelegrams_spanOf (p : PortId) (n : Nat) (ts : List Telegram) (d : Slot) :
    (s.insertTelegrams p n ts).spanOf d = s.spanOf d :=
  by simp only [State.spanOf, State.insertTelegrams_span]
@[simp] theorem State.insertTelegrams_override (p : PortId) (n : Nat) (ts : List Telegram) (d : Slot) :
    (s.insertTelegrams p n ts).override d = s.override d :=
  by simp only [State.override, State.insertTelegrams_overrides]
@[simp] theorem State.insertTelegrams_watch (p : PortId) (n : Nat) (ts : List Telegram) (d : Slot) :
    (s.insertTelegrams p n ts).watch d = s.watch d :=
  by simp only [State.watch, State.insertTelegrams_watches]
@[simp] theorem State.insertTelegrams_gang (p : PortId) (n : Nat) (ts : List Telegram) (h : GangId) :
    (s.insertTelegrams p n ts).gang h = s.gang h :=
  by simp only [State.gang, State.insertTelegrams_gangs]
@[simp] theorem State.insertTelegrams_queue (p : PortId) (n : Nat) (ts : List Telegram) (d : Slot) :
    (s.insertTelegrams p n ts).queue d = s.queue d :=
  by simp only [State.queue, State.insertTelegrams_queues]
@[simp] theorem State.insertTelegrams_flight (p : PortId) (n : Nat) (ts : List Telegram) (d : Slot) :
    (s.insertTelegrams p n ts).flight d = s.flight d :=
  by simp only [State.flight, State.insertTelegrams_flights]
@[simp] theorem State.insertTelegrams_stand (p : PortId) (n : Nat) (ts : List Telegram) (d : Slot) (m : Lane) :
    (s.insertTelegrams p n ts).stand d m = s.stand d m :=
  by simp only [State.stand, State.insertTelegrams_stands]
@[simp] theorem State.insertTelegrams_pointer (p : PortId) (n : Nat) (ts : List Telegram) (d : Slot) :
    (s.insertTelegrams p n ts).pointer d = s.pointer d :=
  by simp only [State.pointer, State.insertTelegrams_pointers]
@[simp] theorem State.insertTelegrams_alert (p : PortId) (n : Nat) (ts : List Telegram) (x : Alert) :
    (s.insertTelegrams p n ts).alert x = s.alert x :=
  by simp only [State.alert, State.insertTelegrams_alerts]
@[simp] theorem State.insertTelegrams_sectionAt (p : PortId) (n : Nat) (ts : List Telegram) (j : Nat) :
    (s.insertTelegrams p n ts).section? j = s.section? j :=
  by simp only [State.section?, State.insertTelegrams_sections]
@[simp] theorem State.insertTelegrams_fitted (p : PortId) (n : Nat) (ts : List Telegram) (d : Slot) :
    (s.insertTelegrams p n ts).fitted d = s.fitted d :=
  by simp only [State.fitted, State.insertTelegrams_config]
@[simp] theorem State.insertTelegrams_concern (p : PortId) (n : Nat) (ts : List Telegram) (d : Slot) :
    (s.insertTelegrams p n ts).concern d = s.concern d := by
  simp only [State.concern, State.west, State.east, State.insertTelegrams_fitted, State.insertTelegrams_config]

/-! ### heard -/

/-- `heard` can change no other field. -/
theorem State.heard_only (p : PortId) : s.heard p =
    { s with cranePorts := (s.heard p).cranePorts, lanePort := (s.heard p).lanePort, gangPort := (s.heard p).gangPort, planPort := (s.heard p).planPort } := by
  cases p <;> rfl
@[simp] theorem State.heard_pending (p : PortId) : (s.heard p).pending = s.pending := by rw [State.heard_only]
@[simp] theorem State.heard_clock (p : PortId) : (s.heard p).clock = s.clock := by rw [State.heard_only]
@[simp] theorem State.heard_mode (p : PortId) : (s.heard p).mode = s.mode := by rw [State.heard_only]
@[simp] theorem State.heard_config (p : PortId) : (s.heard p).config = s.config := by rw [State.heard_only]
@[simp] theorem State.heard_overrides (p : PortId) : (s.heard p).overrides = s.overrides := by rw [State.heard_only]
@[simp] theorem State.heard_cranes (p : PortId) : (s.heard p).cranes = s.cranes := by rw [State.heard_only]
@[simp] theorem State.heard_span (p : PortId) : (s.heard p).span = s.span := by rw [State.heard_only]
@[simp] theorem State.heard_watches (p : PortId) : (s.heard p).watches = s.watches := by rw [State.heard_only]
@[simp] theorem State.heard_sensorLevels (p : PortId) : (s.heard p).sensorLevels = s.sensorLevels :=
  by rw [State.heard_only]
@[simp] theorem State.heard_latches (p : PortId) : (s.heard p).latches = s.latches := by rw [State.heard_only]
@[simp] theorem State.heard_haltLine (p : PortId) : (s.heard p).haltLine = s.haltLine := by rw [State.heard_only]
@[simp] theorem State.heard_halted (p : PortId) : (s.heard p).halted = s.halted := by rw [State.heard_only]
@[simp] theorem State.heard_vessel (p : PortId) : (s.heard p).vessel = s.vessel := by rw [State.heard_only]
@[simp] theorem State.heard_sections (p : PortId) : (s.heard p).sections = s.sections := by rw [State.heard_only]
@[simp] theorem State.heard_gangs (p : PortId) : (s.heard p).gangs = s.gangs := by rw [State.heard_only]
@[simp] theorem State.heard_queues (p : PortId) : (s.heard p).queues = s.queues := by rw [State.heard_only]
@[simp] theorem State.heard_cursor (p : PortId) : (s.heard p).cursor = s.cursor := by rw [State.heard_only]
@[simp] theorem State.heard_flights (p : PortId) : (s.heard p).flights = s.flights := by rw [State.heard_only]
@[simp] theorem State.heard_stands (p : PortId) : (s.heard p).stands = s.stands := by rw [State.heard_only]
@[simp] theorem State.heard_laneMask (p : PortId) : (s.heard p).laneMask = s.laneMask := by rw [State.heard_only]
@[simp] theorem State.heard_pointers (p : PortId) : (s.heard p).pointers = s.pointers := by rw [State.heard_only]
@[simp] theorem State.heard_callCounter (p : PortId) : (s.heard p).callCounter = s.callCounter :=
  by rw [State.heard_only]
@[simp] theorem State.heard_log (p : PortId) : (s.heard p).log = s.log := by rw [State.heard_only]
@[simp] theorem State.heard_backlog (p : PortId) : (s.heard p).backlog = s.backlog := by rw [State.heard_only]
@[simp] theorem State.heard_alerts (p : PortId) : (s.heard p).alerts = s.alerts := by rw [State.heard_only]
@[simp] theorem State.heard_attn (p : PortId) : (s.heard p).attn = s.attn := by rw [State.heard_only]
@[simp] theorem State.heard_crane (p : PortId) (d : Slot) : (s.heard p).crane d = s.crane d :=
  by simp only [State.crane, State.heard_cranes]
@[simp] theorem State.heard_spanOf (p : PortId) (d : Slot) : (s.heard p).spanOf d = s.spanOf d :=
  by simp only [State.spanOf, State.heard_span]
@[simp] theorem State.heard_override (p : PortId) (d : Slot) : (s.heard p).override d = s.override d :=
  by simp only [State.override, State.heard_overrides]
@[simp] theorem State.heard_watch (p : PortId) (d : Slot) : (s.heard p).watch d = s.watch d :=
  by simp only [State.watch, State.heard_watches]
@[simp] theorem State.heard_gang (p : PortId) (h : GangId) : (s.heard p).gang h = s.gang h :=
  by simp only [State.gang, State.heard_gangs]
@[simp] theorem State.heard_queue (p : PortId) (d : Slot) : (s.heard p).queue d = s.queue d :=
  by simp only [State.queue, State.heard_queues]
@[simp] theorem State.heard_flight (p : PortId) (d : Slot) : (s.heard p).flight d = s.flight d :=
  by simp only [State.flight, State.heard_flights]
@[simp] theorem State.heard_stand (p : PortId) (d : Slot) (m : Lane) : (s.heard p).stand d m = s.stand d m :=
  by simp only [State.stand, State.heard_stands]
@[simp] theorem State.heard_pointer (p : PortId) (d : Slot) : (s.heard p).pointer d = s.pointer d :=
  by simp only [State.pointer, State.heard_pointers]
@[simp] theorem State.heard_alert (p : PortId) (x : Alert) : (s.heard p).alert x = s.alert x :=
  by simp only [State.alert, State.heard_alerts]
@[simp] theorem State.heard_sectionAt (p : PortId) (j : Nat) : (s.heard p).section? j = s.section? j :=
  by simp only [State.section?, State.heard_sections]
@[simp] theorem State.heard_fitted (p : PortId) (d : Slot) : (s.heard p).fitted d = s.fitted d :=
  by simp only [State.fitted, State.heard_config]
@[simp] theorem State.heard_concern (p : PortId) (d : Slot) : (s.heard p).concern d = s.concern d := by
  simp only [State.concern, State.west, State.east, State.heard_fitted, State.heard_config]

/-! ### attempt -/

/-- `attempt` can change no other field. -/
theorem State.attempt_only (c : Slot) : s.attempt c =
    { s with pointers := (s.attempt c).pointers, callCounter := (s.attempt c).callCounter, stands := (s.attempt c).stands, flights := (s.attempt c).flights, lanePort := (s.attempt c).lanePort } := by
  unfold State.attempt; repeat' split
  all_goals first | rfl | exact s.makeCall_only ..
@[simp] theorem State.attempt_pending (c : Slot) : (s.attempt c).pending = s.pending := by rw [State.attempt_only]
@[simp] theorem State.attempt_clock (c : Slot) : (s.attempt c).clock = s.clock := by rw [State.attempt_only]
@[simp] theorem State.attempt_mode (c : Slot) : (s.attempt c).mode = s.mode := by rw [State.attempt_only]
@[simp] theorem State.attempt_config (c : Slot) : (s.attempt c).config = s.config := by rw [State.attempt_only]
@[simp] theorem State.attempt_overrides (c : Slot) : (s.attempt c).overrides = s.overrides :=
  by rw [State.attempt_only]
@[simp] theorem State.attempt_cranes (c : Slot) : (s.attempt c).cranes = s.cranes := by rw [State.attempt_only]
@[simp] theorem State.attempt_span (c : Slot) : (s.attempt c).span = s.span := by rw [State.attempt_only]
@[simp] theorem State.attempt_watches (c : Slot) : (s.attempt c).watches = s.watches := by rw [State.attempt_only]
@[simp] theorem State.attempt_sensorLevels (c : Slot) : (s.attempt c).sensorLevels = s.sensorLevels :=
  by rw [State.attempt_only]
@[simp] theorem State.attempt_latches (c : Slot) : (s.attempt c).latches = s.latches := by rw [State.attempt_only]
@[simp] theorem State.attempt_haltLine (c : Slot) : (s.attempt c).haltLine = s.haltLine := by rw [State.attempt_only]
@[simp] theorem State.attempt_halted (c : Slot) : (s.attempt c).halted = s.halted := by rw [State.attempt_only]
@[simp] theorem State.attempt_vessel (c : Slot) : (s.attempt c).vessel = s.vessel := by rw [State.attempt_only]
@[simp] theorem State.attempt_sections (c : Slot) : (s.attempt c).sections = s.sections := by rw [State.attempt_only]
@[simp] theorem State.attempt_gangs (c : Slot) : (s.attempt c).gangs = s.gangs := by rw [State.attempt_only]
@[simp] theorem State.attempt_queues (c : Slot) : (s.attempt c).queues = s.queues := by rw [State.attempt_only]
@[simp] theorem State.attempt_cursor (c : Slot) : (s.attempt c).cursor = s.cursor := by rw [State.attempt_only]
@[simp] theorem State.attempt_laneMask (c : Slot) : (s.attempt c).laneMask = s.laneMask := by rw [State.attempt_only]
@[simp] theorem State.attempt_log (c : Slot) : (s.attempt c).log = s.log := by rw [State.attempt_only]
@[simp] theorem State.attempt_backlog (c : Slot) : (s.attempt c).backlog = s.backlog := by rw [State.attempt_only]
@[simp] theorem State.attempt_alerts (c : Slot) : (s.attempt c).alerts = s.alerts := by rw [State.attempt_only]
@[simp] theorem State.attempt_attn (c : Slot) : (s.attempt c).attn = s.attn := by rw [State.attempt_only]
@[simp] theorem State.attempt_cranePorts (c : Slot) : (s.attempt c).cranePorts = s.cranePorts :=
  by rw [State.attempt_only]
@[simp] theorem State.attempt_gangPort (c : Slot) : (s.attempt c).gangPort = s.gangPort := by rw [State.attempt_only]
@[simp] theorem State.attempt_planPort (c : Slot) : (s.attempt c).planPort = s.planPort := by rw [State.attempt_only]
@[simp] theorem State.attempt_crane (c : Slot) (d : Slot) : (s.attempt c).crane d = s.crane d :=
  by simp only [State.crane, State.attempt_cranes]
@[simp] theorem State.attempt_spanOf (c : Slot) (d : Slot) : (s.attempt c).spanOf d = s.spanOf d :=
  by simp only [State.spanOf, State.attempt_span]
@[simp] theorem State.attempt_override (c : Slot) (d : Slot) : (s.attempt c).override d = s.override d :=
  by simp only [State.override, State.attempt_overrides]
@[simp] theorem State.attempt_watch (c : Slot) (d : Slot) : (s.attempt c).watch d = s.watch d :=
  by simp only [State.watch, State.attempt_watches]
@[simp] theorem State.attempt_gang (c : Slot) (h : GangId) : (s.attempt c).gang h = s.gang h :=
  by simp only [State.gang, State.attempt_gangs]
@[simp] theorem State.attempt_queue (c : Slot) (d : Slot) : (s.attempt c).queue d = s.queue d :=
  by simp only [State.queue, State.attempt_queues]
@[simp] theorem State.attempt_alert (c : Slot) (x : Alert) : (s.attempt c).alert x = s.alert x :=
  by simp only [State.alert, State.attempt_alerts]
@[simp] theorem State.attempt_sectionAt (c : Slot) (j : Nat) : (s.attempt c).section? j = s.section? j :=
  by simp only [State.section?, State.attempt_sections]
@[simp] theorem State.attempt_fitted (c : Slot) (d : Slot) : (s.attempt c).fitted d = s.fitted d :=
  by simp only [State.fitted, State.attempt_config]
@[simp] theorem State.attempt_concern (c : Slot) (d : Slot) : (s.attempt c).concern d = s.concern d := by
  simp only [State.concern, State.west, State.east, State.attempt_fitted, State.attempt_config]
@[simp] theorem State.attempt_port_crane (c : Slot) (d : Slot) : (s.attempt c).port (.crane d) = s.port (.crane d) :=
  by simp only [State.port, State.attempt_cranePorts]
@[simp] theorem State.attempt_port_gang (c : Slot) : (s.attempt c).port .gang = s.port .gang :=
  by simp only [State.port, State.attempt_gangPort]
@[simp] theorem State.attempt_port_plan (c : Slot) : (s.attempt c).port .plan = s.port .plan :=
  by simp only [State.port, State.attempt_planPort]

/-! ### attemptAll -/

/-- `attemptAll` can change no other field. -/
theorem State.attemptAll_only : s.attemptAll =
    { s with pointers := (s.attemptAll).pointers, callCounter := (s.attemptAll).callCounter, stands := (s.attemptAll).stands, flights := (s.attemptAll).flights, lanePort := (s.attemptAll).lanePort } := by
  exact foldl_only State.attempt
    (fun t u => { t with pointers := u.pointers, callCounter := u.callCounter, stands := u.stands, flights := u.flights, lanePort := u.lanePort })
    (fun _ => rfl) (fun _ _ _ => rfl) (fun t c => t.attempt_only c) all8 s
@[simp] theorem State.attemptAll_pending : (s.attemptAll).pending = s.pending := by rw [State.attemptAll_only]
@[simp] theorem State.attemptAll_clock : (s.attemptAll).clock = s.clock := by rw [State.attemptAll_only]
@[simp] theorem State.attemptAll_mode : (s.attemptAll).mode = s.mode := by rw [State.attemptAll_only]
@[simp] theorem State.attemptAll_config : (s.attemptAll).config = s.config := by rw [State.attemptAll_only]
@[simp] theorem State.attemptAll_overrides : (s.attemptAll).overrides = s.overrides := by rw [State.attemptAll_only]
@[simp] theorem State.attemptAll_cranes : (s.attemptAll).cranes = s.cranes := by rw [State.attemptAll_only]
@[simp] theorem State.attemptAll_span : (s.attemptAll).span = s.span := by rw [State.attemptAll_only]
@[simp] theorem State.attemptAll_watches : (s.attemptAll).watches = s.watches := by rw [State.attemptAll_only]
@[simp] theorem State.attemptAll_sensorLevels : (s.attemptAll).sensorLevels = s.sensorLevels :=
  by rw [State.attemptAll_only]
@[simp] theorem State.attemptAll_latches : (s.attemptAll).latches = s.latches := by rw [State.attemptAll_only]
@[simp] theorem State.attemptAll_haltLine : (s.attemptAll).haltLine = s.haltLine := by rw [State.attemptAll_only]
@[simp] theorem State.attemptAll_halted : (s.attemptAll).halted = s.halted := by rw [State.attemptAll_only]
@[simp] theorem State.attemptAll_vessel : (s.attemptAll).vessel = s.vessel := by rw [State.attemptAll_only]
@[simp] theorem State.attemptAll_sections : (s.attemptAll).sections = s.sections := by rw [State.attemptAll_only]
@[simp] theorem State.attemptAll_gangs : (s.attemptAll).gangs = s.gangs := by rw [State.attemptAll_only]
@[simp] theorem State.attemptAll_queues : (s.attemptAll).queues = s.queues := by rw [State.attemptAll_only]
@[simp] theorem State.attemptAll_cursor : (s.attemptAll).cursor = s.cursor := by rw [State.attemptAll_only]
@[simp] theorem State.attemptAll_laneMask : (s.attemptAll).laneMask = s.laneMask := by rw [State.attemptAll_only]
@[simp] theorem State.attemptAll_log : (s.attemptAll).log = s.log := by rw [State.attemptAll_only]
@[simp] theorem State.attemptAll_backlog : (s.attemptAll).backlog = s.backlog := by rw [State.attemptAll_only]
@[simp] theorem State.attemptAll_alerts : (s.attemptAll).alerts = s.alerts := by rw [State.attemptAll_only]
@[simp] theorem State.attemptAll_attn : (s.attemptAll).attn = s.attn := by rw [State.attemptAll_only]
@[simp] theorem State.attemptAll_cranePorts : (s.attemptAll).cranePorts = s.cranePorts :=
  by rw [State.attemptAll_only]
@[simp] theorem State.attemptAll_gangPort : (s.attemptAll).gangPort = s.gangPort := by rw [State.attemptAll_only]
@[simp] theorem State.attemptAll_planPort : (s.attemptAll).planPort = s.planPort := by rw [State.attemptAll_only]
@[simp] theorem State.attemptAll_crane (d : Slot) : (s.attemptAll).crane d = s.crane d :=
  by simp only [State.crane, State.attemptAll_cranes]
@[simp] theorem State.attemptAll_spanOf (d : Slot) : (s.attemptAll).spanOf d = s.spanOf d :=
  by simp only [State.spanOf, State.attemptAll_span]
@[simp] theorem State.attemptAll_override (d : Slot) : (s.attemptAll).override d = s.override d :=
  by simp only [State.override, State.attemptAll_overrides]
@[simp] theorem State.attemptAll_watch (d : Slot) : (s.attemptAll).watch d = s.watch d :=
  by simp only [State.watch, State.attemptAll_watches]
@[simp] theorem State.attemptAll_gang (h : GangId) : (s.attemptAll).gang h = s.gang h :=
  by simp only [State.gang, State.attemptAll_gangs]
@[simp] theorem State.attemptAll_queue (d : Slot) : (s.attemptAll).queue d = s.queue d :=
  by simp only [State.queue, State.attemptAll_queues]
@[simp] theorem State.attemptAll_alert (x : Alert) : (s.attemptAll).alert x = s.alert x :=
  by simp only [State.alert, State.attemptAll_alerts]
@[simp] theorem State.attemptAll_sectionAt (j : Nat) : (s.attemptAll).section? j = s.section? j :=
  by simp only [State.section?, State.attemptAll_sections]
@[simp] theorem State.attemptAll_fitted (d : Slot) : (s.attemptAll).fitted d = s.fitted d :=
  by simp only [State.fitted, State.attemptAll_config]
@[simp] theorem State.attemptAll_concern (d : Slot) : (s.attemptAll).concern d = s.concern d := by
  simp only [State.concern, State.west, State.east, State.attemptAll_fitted, State.attemptAll_config]
@[simp] theorem State.attemptAll_port_crane (d : Slot) : (s.attemptAll).port (.crane d) = s.port (.crane d) :=
  by simp only [State.port, State.attemptAll_cranePorts]
@[simp] theorem State.attemptAll_port_gang : (s.attemptAll).port .gang = s.port .gang :=
  by simp only [State.port, State.attemptAll_gangPort]
@[simp] theorem State.attemptAll_port_plan : (s.attemptAll).port .plan = s.port .plan :=
  by simp only [State.port, State.attemptAll_planPort]

/-! ### consider -/

/-- `consider` can change no other field. -/
theorem State.consider_only (i : Nat) : s.consider i =
    { s with sections := (s.consider i).sections, gangs := (s.consider i).gangs, gangPort := (s.consider i).gangPort } := by
  unfold State.consider; repeat' split
  all_goals first | rfl | (rw [State.changeSection_only, State.boardWaiting_only])
@[simp] theorem State.consider_pending (i : Nat) : (s.consider i).pending = s.pending := by rw [State.consider_only]
@[simp] theorem State.consider_clock (i : Nat) : (s.consider i).clock = s.clock := by rw [State.consider_only]
@[simp] theorem State.consider_mode (i : Nat) : (s.consider i).mode = s.mode := by rw [State.consider_only]
@[simp] theorem State.consider_config (i : Nat) : (s.consider i).config = s.config := by rw [State.consider_only]
@[simp] theorem State.consider_overrides (i : Nat) : (s.consider i).overrides = s.overrides :=
  by rw [State.consider_only]
@[simp] theorem State.consider_cranes (i : Nat) : (s.consider i).cranes = s.cranes := by rw [State.consider_only]
@[simp] theorem State.consider_span (i : Nat) : (s.consider i).span = s.span := by rw [State.consider_only]
@[simp] theorem State.consider_watches (i : Nat) : (s.consider i).watches = s.watches := by rw [State.consider_only]
@[simp] theorem State.consider_sensorLevels (i : Nat) : (s.consider i).sensorLevels = s.sensorLevels :=
  by rw [State.consider_only]
@[simp] theorem State.consider_latches (i : Nat) : (s.consider i).latches = s.latches := by rw [State.consider_only]
@[simp] theorem State.consider_haltLine (i : Nat) : (s.consider i).haltLine = s.haltLine :=
  by rw [State.consider_only]
@[simp] theorem State.consider_halted (i : Nat) : (s.consider i).halted = s.halted := by rw [State.consider_only]
@[simp] theorem State.consider_vessel (i : Nat) : (s.consider i).vessel = s.vessel := by rw [State.consider_only]
@[simp] theorem State.consider_queues (i : Nat) : (s.consider i).queues = s.queues := by rw [State.consider_only]
@[simp] theorem State.consider_cursor (i : Nat) : (s.consider i).cursor = s.cursor := by rw [State.consider_only]
@[simp] theorem State.consider_flights (i : Nat) : (s.consider i).flights = s.flights := by rw [State.consider_only]
@[simp] theorem State.consider_stands (i : Nat) : (s.consider i).stands = s.stands := by rw [State.consider_only]
@[simp] theorem State.consider_laneMask (i : Nat) : (s.consider i).laneMask = s.laneMask :=
  by rw [State.consider_only]
@[simp] theorem State.consider_pointers (i : Nat) : (s.consider i).pointers = s.pointers :=
  by rw [State.consider_only]
@[simp] theorem State.consider_callCounter (i : Nat) : (s.consider i).callCounter = s.callCounter :=
  by rw [State.consider_only]
@[simp] theorem State.consider_log (i : Nat) : (s.consider i).log = s.log := by rw [State.consider_only]
@[simp] theorem State.consider_backlog (i : Nat) : (s.consider i).backlog = s.backlog := by rw [State.consider_only]
@[simp] theorem State.consider_alerts (i : Nat) : (s.consider i).alerts = s.alerts := by rw [State.consider_only]
@[simp] theorem State.consider_attn (i : Nat) : (s.consider i).attn = s.attn := by rw [State.consider_only]
@[simp] theorem State.consider_cranePorts (i : Nat) : (s.consider i).cranePorts = s.cranePorts :=
  by rw [State.consider_only]
@[simp] theorem State.consider_lanePort (i : Nat) : (s.consider i).lanePort = s.lanePort :=
  by rw [State.consider_only]
@[simp] theorem State.consider_planPort (i : Nat) : (s.consider i).planPort = s.planPort :=
  by rw [State.consider_only]
@[simp] theorem State.consider_crane (i : Nat) (d : Slot) : (s.consider i).crane d = s.crane d :=
  by simp only [State.crane, State.consider_cranes]
@[simp] theorem State.consider_spanOf (i : Nat) (d : Slot) : (s.consider i).spanOf d = s.spanOf d :=
  by simp only [State.spanOf, State.consider_span]
@[simp] theorem State.consider_override (i : Nat) (d : Slot) : (s.consider i).override d = s.override d :=
  by simp only [State.override, State.consider_overrides]
@[simp] theorem State.consider_watch (i : Nat) (d : Slot) : (s.consider i).watch d = s.watch d :=
  by simp only [State.watch, State.consider_watches]
@[simp] theorem State.consider_queue (i : Nat) (d : Slot) : (s.consider i).queue d = s.queue d :=
  by simp only [State.queue, State.consider_queues]
@[simp] theorem State.consider_flight (i : Nat) (d : Slot) : (s.consider i).flight d = s.flight d :=
  by simp only [State.flight, State.consider_flights]
@[simp] theorem State.consider_stand (i : Nat) (d : Slot) (m : Lane) : (s.consider i).stand d m = s.stand d m :=
  by simp only [State.stand, State.consider_stands]
@[simp] theorem State.consider_pointer (i : Nat) (d : Slot) : (s.consider i).pointer d = s.pointer d :=
  by simp only [State.pointer, State.consider_pointers]
@[simp] theorem State.consider_alert (i : Nat) (x : Alert) : (s.consider i).alert x = s.alert x :=
  by simp only [State.alert, State.consider_alerts]
@[simp] theorem State.consider_fitted (i : Nat) (d : Slot) : (s.consider i).fitted d = s.fitted d :=
  by simp only [State.fitted, State.consider_config]
@[simp] theorem State.consider_concern (i : Nat) (d : Slot) : (s.consider i).concern d = s.concern d := by
  simp only [State.concern, State.west, State.east, State.consider_fitted, State.consider_config]
@[simp] theorem State.consider_port_crane (i : Nat) (d : Slot) : (s.consider i).port (.crane d) = s.port (.crane d) :=
  by simp only [State.port, State.consider_cranePorts]
@[simp] theorem State.consider_port_lane (i : Nat) : (s.consider i).port .lane = s.port .lane :=
  by simp only [State.port, State.consider_lanePort]
@[simp] theorem State.consider_port_plan (i : Nat) : (s.consider i).port .plan = s.port .plan :=
  by simp only [State.port, State.consider_planPort]

/-! ### claim -/

/-- `claim` can change no other field. -/
theorem State.claim_only (c : Slot) (f : Footprint) : s.claim c f =
    { s with sections := (s.claim c f).sections } := by
  cases f <;> simp only [State.claim, Footprint.sections, List.foldl]
  · exact s.changeSection_only ..
  · rw [State.changeSection_only, s.changeSection_only]
@[simp] theorem State.claim_pending (c : Slot) (f : Footprint) : (s.claim c f).pending = s.pending :=
  by rw [State.claim_only]
@[simp] theorem State.claim_clock (c : Slot) (f : Footprint) : (s.claim c f).clock = s.clock :=
  by rw [State.claim_only]
@[simp] theorem State.claim_mode (c : Slot) (f : Footprint) : (s.claim c f).mode = s.mode := by rw [State.claim_only]
@[simp] theorem State.claim_config (c : Slot) (f : Footprint) : (s.claim c f).config = s.config :=
  by rw [State.claim_only]
@[simp] theorem State.claim_overrides (c : Slot) (f : Footprint) : (s.claim c f).overrides = s.overrides :=
  by rw [State.claim_only]
@[simp] theorem State.claim_cranes (c : Slot) (f : Footprint) : (s.claim c f).cranes = s.cranes :=
  by rw [State.claim_only]
@[simp] theorem State.claim_span (c : Slot) (f : Footprint) : (s.claim c f).span = s.span := by rw [State.claim_only]
@[simp] theorem State.claim_watches (c : Slot) (f : Footprint) : (s.claim c f).watches = s.watches :=
  by rw [State.claim_only]
@[simp] theorem State.claim_sensorLevels (c : Slot) (f : Footprint) : (s.claim c f).sensorLevels = s.sensorLevels :=
  by rw [State.claim_only]
@[simp] theorem State.claim_latches (c : Slot) (f : Footprint) : (s.claim c f).latches = s.latches :=
  by rw [State.claim_only]
@[simp] theorem State.claim_haltLine (c : Slot) (f : Footprint) : (s.claim c f).haltLine = s.haltLine :=
  by rw [State.claim_only]
@[simp] theorem State.claim_halted (c : Slot) (f : Footprint) : (s.claim c f).halted = s.halted :=
  by rw [State.claim_only]
@[simp] theorem State.claim_vessel (c : Slot) (f : Footprint) : (s.claim c f).vessel = s.vessel :=
  by rw [State.claim_only]
@[simp] theorem State.claim_gangs (c : Slot) (f : Footprint) : (s.claim c f).gangs = s.gangs :=
  by rw [State.claim_only]
@[simp] theorem State.claim_queues (c : Slot) (f : Footprint) : (s.claim c f).queues = s.queues :=
  by rw [State.claim_only]
@[simp] theorem State.claim_cursor (c : Slot) (f : Footprint) : (s.claim c f).cursor = s.cursor :=
  by rw [State.claim_only]
@[simp] theorem State.claim_flights (c : Slot) (f : Footprint) : (s.claim c f).flights = s.flights :=
  by rw [State.claim_only]
@[simp] theorem State.claim_stands (c : Slot) (f : Footprint) : (s.claim c f).stands = s.stands :=
  by rw [State.claim_only]
@[simp] theorem State.claim_laneMask (c : Slot) (f : Footprint) : (s.claim c f).laneMask = s.laneMask :=
  by rw [State.claim_only]
@[simp] theorem State.claim_pointers (c : Slot) (f : Footprint) : (s.claim c f).pointers = s.pointers :=
  by rw [State.claim_only]
@[simp] theorem State.claim_callCounter (c : Slot) (f : Footprint) : (s.claim c f).callCounter = s.callCounter :=
  by rw [State.claim_only]
@[simp] theorem State.claim_log (c : Slot) (f : Footprint) : (s.claim c f).log = s.log := by rw [State.claim_only]
@[simp] theorem State.claim_backlog (c : Slot) (f : Footprint) : (s.claim c f).backlog = s.backlog :=
  by rw [State.claim_only]
@[simp] theorem State.claim_alerts (c : Slot) (f : Footprint) : (s.claim c f).alerts = s.alerts :=
  by rw [State.claim_only]
@[simp] theorem State.claim_attn (c : Slot) (f : Footprint) : (s.claim c f).attn = s.attn := by rw [State.claim_only]
@[simp] theorem State.claim_cranePorts (c : Slot) (f : Footprint) : (s.claim c f).cranePorts = s.cranePorts :=
  by rw [State.claim_only]
@[simp] theorem State.claim_lanePort (c : Slot) (f : Footprint) : (s.claim c f).lanePort = s.lanePort :=
  by rw [State.claim_only]
@[simp] theorem State.claim_gangPort (c : Slot) (f : Footprint) : (s.claim c f).gangPort = s.gangPort :=
  by rw [State.claim_only]
@[simp] theorem State.claim_planPort (c : Slot) (f : Footprint) : (s.claim c f).planPort = s.planPort :=
  by rw [State.claim_only]
@[simp] theorem State.claim_crane (c : Slot) (f : Footprint) (d : Slot) : (s.claim c f).crane d = s.crane d :=
  by simp only [State.crane, State.claim_cranes]
@[simp] theorem State.claim_spanOf (c : Slot) (f : Footprint) (d : Slot) : (s.claim c f).spanOf d = s.spanOf d :=
  by simp only [State.spanOf, State.claim_span]
@[simp] theorem State.claim_override (c : Slot) (f : Footprint) (d : Slot) :
    (s.claim c f).override d = s.override d :=
  by simp only [State.override, State.claim_overrides]
@[simp] theorem State.claim_watch (c : Slot) (f : Footprint) (d : Slot) : (s.claim c f).watch d = s.watch d :=
  by simp only [State.watch, State.claim_watches]
@[simp] theorem State.claim_gang (c : Slot) (f : Footprint) (h : GangId) : (s.claim c f).gang h = s.gang h :=
  by simp only [State.gang, State.claim_gangs]
@[simp] theorem State.claim_queue (c : Slot) (f : Footprint) (d : Slot) : (s.claim c f).queue d = s.queue d :=
  by simp only [State.queue, State.claim_queues]
@[simp] theorem State.claim_flight (c : Slot) (f : Footprint) (d : Slot) : (s.claim c f).flight d = s.flight d :=
  by simp only [State.flight, State.claim_flights]
@[simp] theorem State.claim_stand (c : Slot) (f : Footprint) (d : Slot) (m : Lane) :
    (s.claim c f).stand d m = s.stand d m :=
  by simp only [State.stand, State.claim_stands]
@[simp] theorem State.claim_pointer (c : Slot) (f : Footprint) (d : Slot) : (s.claim c f).pointer d = s.pointer d :=
  by simp only [State.pointer, State.claim_pointers]
@[simp] theorem State.claim_alert (c : Slot) (f : Footprint) (x : Alert) : (s.claim c f).alert x = s.alert x :=
  by simp only [State.alert, State.claim_alerts]
@[simp] theorem State.claim_fitted (c : Slot) (f : Footprint) (d : Slot) : (s.claim c f).fitted d = s.fitted d :=
  by simp only [State.fitted, State.claim_config]
@[simp] theorem State.claim_concern (c : Slot) (f : Footprint) (d : Slot) : (s.claim c f).concern d = s.concern d := by
  simp only [State.concern, State.west, State.east, State.claim_fitted, State.claim_config]
@[simp] theorem State.claim_port (c : Slot) (f : Footprint) (q : PortId) : (s.claim c f).port q = s.port q := by
  simp only [State.port, State.claim_cranePorts, State.claim_lanePort, State.claim_gangPort, State.claim_planPort]

/-! ### unclaim -/

/-- `unclaim` can change no other field. -/
theorem State.unclaim_only (f : Footprint) : s.unclaim f =
    { s with sections := (s.unclaim f).sections } := by
  cases f <;> simp only [State.unclaim, Footprint.sections, List.foldl]
  · exact s.changeSection_only ..
  · rw [State.changeSection_only, s.changeSection_only]
@[simp] theorem State.unclaim_pending (f : Footprint) : (s.unclaim f).pending = s.pending :=
  by rw [State.unclaim_only]
@[simp] theorem State.unclaim_clock (f : Footprint) : (s.unclaim f).clock = s.clock := by rw [State.unclaim_only]
@[simp] theorem State.unclaim_mode (f : Footprint) : (s.unclaim f).mode = s.mode := by rw [State.unclaim_only]
@[simp] theorem State.unclaim_config (f : Footprint) : (s.unclaim f).config = s.config := by rw [State.unclaim_only]
@[simp] theorem State.unclaim_overrides (f : Footprint) : (s.unclaim f).overrides = s.overrides :=
  by rw [State.unclaim_only]
@[simp] theorem State.unclaim_cranes (f : Footprint) : (s.unclaim f).cranes = s.cranes := by rw [State.unclaim_only]
@[simp] theorem State.unclaim_span (f : Footprint) : (s.unclaim f).span = s.span := by rw [State.unclaim_only]
@[simp] theorem State.unclaim_watches (f : Footprint) : (s.unclaim f).watches = s.watches :=
  by rw [State.unclaim_only]
@[simp] theorem State.unclaim_sensorLevels (f : Footprint) : (s.unclaim f).sensorLevels = s.sensorLevels :=
  by rw [State.unclaim_only]
@[simp] theorem State.unclaim_latches (f : Footprint) : (s.unclaim f).latches = s.latches :=
  by rw [State.unclaim_only]
@[simp] theorem State.unclaim_haltLine (f : Footprint) : (s.unclaim f).haltLine = s.haltLine :=
  by rw [State.unclaim_only]
@[simp] theorem State.unclaim_halted (f : Footprint) : (s.unclaim f).halted = s.halted := by rw [State.unclaim_only]
@[simp] theorem State.unclaim_vessel (f : Footprint) : (s.unclaim f).vessel = s.vessel := by rw [State.unclaim_only]
@[simp] theorem State.unclaim_gangs (f : Footprint) : (s.unclaim f).gangs = s.gangs := by rw [State.unclaim_only]
@[simp] theorem State.unclaim_queues (f : Footprint) : (s.unclaim f).queues = s.queues := by rw [State.unclaim_only]
@[simp] theorem State.unclaim_cursor (f : Footprint) : (s.unclaim f).cursor = s.cursor := by rw [State.unclaim_only]
@[simp] theorem State.unclaim_flights (f : Footprint) : (s.unclaim f).flights = s.flights :=
  by rw [State.unclaim_only]
@[simp] theorem State.unclaim_stands (f : Footprint) : (s.unclaim f).stands = s.stands := by rw [State.unclaim_only]
@[simp] theorem State.unclaim_laneMask (f : Footprint) : (s.unclaim f).laneMask = s.laneMask :=
  by rw [State.unclaim_only]
@[simp] theorem State.unclaim_pointers (f : Footprint) : (s.unclaim f).pointers = s.pointers :=
  by rw [State.unclaim_only]
@[simp] theorem State.unclaim_callCounter (f : Footprint) : (s.unclaim f).callCounter = s.callCounter :=
  by rw [State.unclaim_only]
@[simp] theorem State.unclaim_log (f : Footprint) : (s.unclaim f).log = s.log := by rw [State.unclaim_only]
@[simp] theorem State.unclaim_backlog (f : Footprint) : (s.unclaim f).backlog = s.backlog :=
  by rw [State.unclaim_only]
@[simp] theorem State.unclaim_alerts (f : Footprint) : (s.unclaim f).alerts = s.alerts := by rw [State.unclaim_only]
@[simp] theorem State.unclaim_attn (f : Footprint) : (s.unclaim f).attn = s.attn := by rw [State.unclaim_only]
@[simp] theorem State.unclaim_cranePorts (f : Footprint) : (s.unclaim f).cranePorts = s.cranePorts :=
  by rw [State.unclaim_only]
@[simp] theorem State.unclaim_lanePort (f : Footprint) : (s.unclaim f).lanePort = s.lanePort :=
  by rw [State.unclaim_only]
@[simp] theorem State.unclaim_gangPort (f : Footprint) : (s.unclaim f).gangPort = s.gangPort :=
  by rw [State.unclaim_only]
@[simp] theorem State.unclaim_planPort (f : Footprint) : (s.unclaim f).planPort = s.planPort :=
  by rw [State.unclaim_only]
@[simp] theorem State.unclaim_crane (f : Footprint) (d : Slot) : (s.unclaim f).crane d = s.crane d :=
  by simp only [State.crane, State.unclaim_cranes]
@[simp] theorem State.unclaim_spanOf (f : Footprint) (d : Slot) : (s.unclaim f).spanOf d = s.spanOf d :=
  by simp only [State.spanOf, State.unclaim_span]
@[simp] theorem State.unclaim_override (f : Footprint) (d : Slot) : (s.unclaim f).override d = s.override d :=
  by simp only [State.override, State.unclaim_overrides]
@[simp] theorem State.unclaim_watch (f : Footprint) (d : Slot) : (s.unclaim f).watch d = s.watch d :=
  by simp only [State.watch, State.unclaim_watches]
@[simp] theorem State.unclaim_gang (f : Footprint) (h : GangId) : (s.unclaim f).gang h = s.gang h :=
  by simp only [State.gang, State.unclaim_gangs]
@[simp] theorem State.unclaim_queue (f : Footprint) (d : Slot) : (s.unclaim f).queue d = s.queue d :=
  by simp only [State.queue, State.unclaim_queues]
@[simp] theorem State.unclaim_flight (f : Footprint) (d : Slot) : (s.unclaim f).flight d = s.flight d :=
  by simp only [State.flight, State.unclaim_flights]
@[simp] theorem State.unclaim_stand (f : Footprint) (d : Slot) (m : Lane) : (s.unclaim f).stand d m = s.stand d m :=
  by simp only [State.stand, State.unclaim_stands]
@[simp] theorem State.unclaim_pointer (f : Footprint) (d : Slot) : (s.unclaim f).pointer d = s.pointer d :=
  by simp only [State.pointer, State.unclaim_pointers]
@[simp] theorem State.unclaim_alert (f : Footprint) (x : Alert) : (s.unclaim f).alert x = s.alert x :=
  by simp only [State.alert, State.unclaim_alerts]
@[simp] theorem State.unclaim_fitted (f : Footprint) (d : Slot) : (s.unclaim f).fitted d = s.fitted d :=
  by simp only [State.fitted, State.unclaim_config]
@[simp] theorem State.unclaim_concern (f : Footprint) (d : Slot) : (s.unclaim f).concern d = s.concern d := by
  simp only [State.concern, State.west, State.east, State.unclaim_fitted, State.unclaim_config]
@[simp] theorem State.unclaim_port (f : Footprint) (q : PortId) : (s.unclaim f).port q = s.port q := by
  simp only [State.port, State.unclaim_cranePorts, State.unclaim_lanePort, State.unclaim_gangPort, State.unclaim_planPort]

/-! ### releaseFootprint -/

/-- `releaseFootprint` can change no other field. -/
theorem State.releaseFootprint_only (f : Footprint) : s.releaseFootprint f =
    { s with sections := (s.releaseFootprint f).sections, gangs := (s.releaseFootprint f).gangs, gangPort := (s.releaseFootprint f).gangPort } := by
  rw [State.releaseFootprint, foldl_only State.consider
    (fun t u => { t with sections := u.sections, gangs := u.gangs, gangPort := u.gangPort })
    (fun _ => rfl) (fun _ _ _ => rfl) (fun t i => t.consider_only i), State.unclaim_only]
@[simp] theorem State.releaseFootprint_pending (f : Footprint) : (s.releaseFootprint f).pending = s.pending :=
  by rw [State.releaseFootprint_only]
@[simp] theorem State.releaseFootprint_clock (f : Footprint) : (s.releaseFootprint f).clock = s.clock :=
  by rw [State.releaseFootprint_only]
@[simp] theorem State.releaseFootprint_mode (f : Footprint) : (s.releaseFootprint f).mode = s.mode :=
  by rw [State.releaseFootprint_only]
@[simp] theorem State.releaseFootprint_config (f : Footprint) : (s.releaseFootprint f).config = s.config :=
  by rw [State.releaseFootprint_only]
@[simp] theorem State.releaseFootprint_overrides (f : Footprint) : (s.releaseFootprint f).overrides = s.overrides :=
  by rw [State.releaseFootprint_only]
@[simp] theorem State.releaseFootprint_cranes (f : Footprint) : (s.releaseFootprint f).cranes = s.cranes :=
  by rw [State.releaseFootprint_only]
@[simp] theorem State.releaseFootprint_span (f : Footprint) : (s.releaseFootprint f).span = s.span :=
  by rw [State.releaseFootprint_only]
@[simp] theorem State.releaseFootprint_watches (f : Footprint) : (s.releaseFootprint f).watches = s.watches :=
  by rw [State.releaseFootprint_only]
@[simp] theorem State.releaseFootprint_sensorLevels (f : Footprint) :
    (s.releaseFootprint f).sensorLevels = s.sensorLevels :=
  by rw [State.releaseFootprint_only]
@[simp] theorem State.releaseFootprint_latches (f : Footprint) : (s.releaseFootprint f).latches = s.latches :=
  by rw [State.releaseFootprint_only]
@[simp] theorem State.releaseFootprint_haltLine (f : Footprint) : (s.releaseFootprint f).haltLine = s.haltLine :=
  by rw [State.releaseFootprint_only]
@[simp] theorem State.releaseFootprint_halted (f : Footprint) : (s.releaseFootprint f).halted = s.halted :=
  by rw [State.releaseFootprint_only]
@[simp] theorem State.releaseFootprint_vessel (f : Footprint) : (s.releaseFootprint f).vessel = s.vessel :=
  by rw [State.releaseFootprint_only]
@[simp] theorem State.releaseFootprint_queues (f : Footprint) : (s.releaseFootprint f).queues = s.queues :=
  by rw [State.releaseFootprint_only]
@[simp] theorem State.releaseFootprint_cursor (f : Footprint) : (s.releaseFootprint f).cursor = s.cursor :=
  by rw [State.releaseFootprint_only]
@[simp] theorem State.releaseFootprint_flights (f : Footprint) : (s.releaseFootprint f).flights = s.flights :=
  by rw [State.releaseFootprint_only]
@[simp] theorem State.releaseFootprint_stands (f : Footprint) : (s.releaseFootprint f).stands = s.stands :=
  by rw [State.releaseFootprint_only]
@[simp] theorem State.releaseFootprint_laneMask (f : Footprint) : (s.releaseFootprint f).laneMask = s.laneMask :=
  by rw [State.releaseFootprint_only]
@[simp] theorem State.releaseFootprint_pointers (f : Footprint) : (s.releaseFootprint f).pointers = s.pointers :=
  by rw [State.releaseFootprint_only]
@[simp] theorem State.releaseFootprint_callCounter (f : Footprint) :
    (s.releaseFootprint f).callCounter = s.callCounter :=
  by rw [State.releaseFootprint_only]
@[simp] theorem State.releaseFootprint_log (f : Footprint) : (s.releaseFootprint f).log = s.log :=
  by rw [State.releaseFootprint_only]
@[simp] theorem State.releaseFootprint_backlog (f : Footprint) : (s.releaseFootprint f).backlog = s.backlog :=
  by rw [State.releaseFootprint_only]
@[simp] theorem State.releaseFootprint_alerts (f : Footprint) : (s.releaseFootprint f).alerts = s.alerts :=
  by rw [State.releaseFootprint_only]
@[simp] theorem State.releaseFootprint_attn (f : Footprint) : (s.releaseFootprint f).attn = s.attn :=
  by rw [State.releaseFootprint_only]
@[simp] theorem State.releaseFootprint_cranePorts (f : Footprint) :
    (s.releaseFootprint f).cranePorts = s.cranePorts :=
  by rw [State.releaseFootprint_only]
@[simp] theorem State.releaseFootprint_lanePort (f : Footprint) : (s.releaseFootprint f).lanePort = s.lanePort :=
  by rw [State.releaseFootprint_only]
@[simp] theorem State.releaseFootprint_planPort (f : Footprint) : (s.releaseFootprint f).planPort = s.planPort :=
  by rw [State.releaseFootprint_only]
@[simp] theorem State.releaseFootprint_crane (f : Footprint) (d : Slot) :
    (s.releaseFootprint f).crane d = s.crane d :=
  by simp only [State.crane, State.releaseFootprint_cranes]
@[simp] theorem State.releaseFootprint_spanOf (f : Footprint) (d : Slot) :
    (s.releaseFootprint f).spanOf d = s.spanOf d :=
  by simp only [State.spanOf, State.releaseFootprint_span]
@[simp] theorem State.releaseFootprint_override (f : Footprint) (d : Slot) :
    (s.releaseFootprint f).override d = s.override d :=
  by simp only [State.override, State.releaseFootprint_overrides]
@[simp] theorem State.releaseFootprint_watch (f : Footprint) (d : Slot) :
    (s.releaseFootprint f).watch d = s.watch d :=
  by simp only [State.watch, State.releaseFootprint_watches]
@[simp] theorem State.releaseFootprint_queue (f : Footprint) (d : Slot) :
    (s.releaseFootprint f).queue d = s.queue d :=
  by simp only [State.queue, State.releaseFootprint_queues]
@[simp] theorem State.releaseFootprint_flight (f : Footprint) (d : Slot) :
    (s.releaseFootprint f).flight d = s.flight d :=
  by simp only [State.flight, State.releaseFootprint_flights]
@[simp] theorem State.releaseFootprint_stand (f : Footprint) (d : Slot) (m : Lane) :
    (s.releaseFootprint f).stand d m = s.stand d m :=
  by simp only [State.stand, State.releaseFootprint_stands]
@[simp] theorem State.releaseFootprint_pointer (f : Footprint) (d : Slot) :
    (s.releaseFootprint f).pointer d = s.pointer d :=
  by simp only [State.pointer, State.releaseFootprint_pointers]
@[simp] theorem State.releaseFootprint_alert (f : Footprint) (x : Alert) :
    (s.releaseFootprint f).alert x = s.alert x :=
  by simp only [State.alert, State.releaseFootprint_alerts]
@[simp] theorem State.releaseFootprint_fitted (f : Footprint) (d : Slot) :
    (s.releaseFootprint f).fitted d = s.fitted d :=
  by simp only [State.fitted, State.releaseFootprint_config]
@[simp] theorem State.releaseFootprint_concern (f : Footprint) (d : Slot) :
    (s.releaseFootprint f).concern d = s.concern d := by
  simp only [State.concern, State.west, State.east, State.releaseFootprint_fitted, State.releaseFootprint_config]
@[simp] theorem State.releaseFootprint_port_crane (f : Footprint) (d : Slot) :
    (s.releaseFootprint f).port (.crane d) = s.port (.crane d) :=
  by simp only [State.port, State.releaseFootprint_cranePorts]
@[simp] theorem State.releaseFootprint_port_lane (f : Footprint) : (s.releaseFootprint f).port .lane = s.port .lane :=
  by simp only [State.port, State.releaseFootprint_lanePort]
@[simp] theorem State.releaseFootprint_port_plan (f : Footprint) : (s.releaseFootprint f).port .plan = s.port .plan :=
  by simp only [State.port, State.releaseFootprint_planPort]

/-! ### releaseTruck -/

/-- `releaseTruck` can change no other field. -/
theorem State.releaseTruck_only (c : Slot) (f : Flight) : s.releaseTruck c f =
    { s with stands := (s.releaseTruck c f).stands, lanePort := (s.releaseTruck c f).lanePort } := by
  unfold State.releaseTruck; repeat' split
  all_goals first | rfl | (first | exact s.cancelStand_only .. | exact s.departStand_only ..)
@[simp] theorem State.releaseTruck_pending (c : Slot) (f : Flight) : (s.releaseTruck c f).pending = s.pending :=
  by rw [State.releaseTruck_only]
@[simp] theorem State.releaseTruck_clock (c : Slot) (f : Flight) : (s.releaseTruck c f).clock = s.clock :=
  by rw [State.releaseTruck_only]
@[simp] theorem State.releaseTruck_mode (c : Slot) (f : Flight) : (s.releaseTruck c f).mode = s.mode :=
  by rw [State.releaseTruck_only]
@[simp] theorem State.releaseTruck_config (c : Slot) (f : Flight) : (s.releaseTruck c f).config = s.config :=
  by rw [State.releaseTruck_only]
@[simp] theorem State.releaseTruck_overrides (c : Slot) (f : Flight) : (s.releaseTruck c f).overrides = s.overrides :=
  by rw [State.releaseTruck_only]
@[simp] theorem State.releaseTruck_cranes (c : Slot) (f : Flight) : (s.releaseTruck c f).cranes = s.cranes :=
  by rw [State.releaseTruck_only]
@[simp] theorem State.releaseTruck_span (c : Slot) (f : Flight) : (s.releaseTruck c f).span = s.span :=
  by rw [State.releaseTruck_only]
@[simp] theorem State.releaseTruck_watches (c : Slot) (f : Flight) : (s.releaseTruck c f).watches = s.watches :=
  by rw [State.releaseTruck_only]
@[simp] theorem State.releaseTruck_sensorLevels (c : Slot) (f : Flight) :
    (s.releaseTruck c f).sensorLevels = s.sensorLevels :=
  by rw [State.releaseTruck_only]
@[simp] theorem State.releaseTruck_latches (c : Slot) (f : Flight) : (s.releaseTruck c f).latches = s.latches :=
  by rw [State.releaseTruck_only]
@[simp] theorem State.releaseTruck_haltLine (c : Slot) (f : Flight) : (s.releaseTruck c f).haltLine = s.haltLine :=
  by rw [State.releaseTruck_only]
@[simp] theorem State.releaseTruck_halted (c : Slot) (f : Flight) : (s.releaseTruck c f).halted = s.halted :=
  by rw [State.releaseTruck_only]
@[simp] theorem State.releaseTruck_vessel (c : Slot) (f : Flight) : (s.releaseTruck c f).vessel = s.vessel :=
  by rw [State.releaseTruck_only]
@[simp] theorem State.releaseTruck_sections (c : Slot) (f : Flight) : (s.releaseTruck c f).sections = s.sections :=
  by rw [State.releaseTruck_only]
@[simp] theorem State.releaseTruck_gangs (c : Slot) (f : Flight) : (s.releaseTruck c f).gangs = s.gangs :=
  by rw [State.releaseTruck_only]
@[simp] theorem State.releaseTruck_queues (c : Slot) (f : Flight) : (s.releaseTruck c f).queues = s.queues :=
  by rw [State.releaseTruck_only]
@[simp] theorem State.releaseTruck_cursor (c : Slot) (f : Flight) : (s.releaseTruck c f).cursor = s.cursor :=
  by rw [State.releaseTruck_only]
@[simp] theorem State.releaseTruck_flights (c : Slot) (f : Flight) : (s.releaseTruck c f).flights = s.flights :=
  by rw [State.releaseTruck_only]
@[simp] theorem State.releaseTruck_laneMask (c : Slot) (f : Flight) : (s.releaseTruck c f).laneMask = s.laneMask :=
  by rw [State.releaseTruck_only]
@[simp] theorem State.releaseTruck_pointers (c : Slot) (f : Flight) : (s.releaseTruck c f).pointers = s.pointers :=
  by rw [State.releaseTruck_only]
@[simp] theorem State.releaseTruck_callCounter (c : Slot) (f : Flight) :
    (s.releaseTruck c f).callCounter = s.callCounter :=
  by rw [State.releaseTruck_only]
@[simp] theorem State.releaseTruck_log (c : Slot) (f : Flight) : (s.releaseTruck c f).log = s.log :=
  by rw [State.releaseTruck_only]
@[simp] theorem State.releaseTruck_backlog (c : Slot) (f : Flight) : (s.releaseTruck c f).backlog = s.backlog :=
  by rw [State.releaseTruck_only]
@[simp] theorem State.releaseTruck_alerts (c : Slot) (f : Flight) : (s.releaseTruck c f).alerts = s.alerts :=
  by rw [State.releaseTruck_only]
@[simp] theorem State.releaseTruck_attn (c : Slot) (f : Flight) : (s.releaseTruck c f).attn = s.attn :=
  by rw [State.releaseTruck_only]
@[simp] theorem State.releaseTruck_cranePorts (c : Slot) (f : Flight) :
    (s.releaseTruck c f).cranePorts = s.cranePorts :=
  by rw [State.releaseTruck_only]
@[simp] theorem State.releaseTruck_gangPort (c : Slot) (f : Flight) : (s.releaseTruck c f).gangPort = s.gangPort :=
  by rw [State.releaseTruck_only]
@[simp] theorem State.releaseTruck_planPort (c : Slot) (f : Flight) : (s.releaseTruck c f).planPort = s.planPort :=
  by rw [State.releaseTruck_only]
@[simp] theorem State.releaseTruck_crane (c : Slot) (f : Flight) (d : Slot) :
    (s.releaseTruck c f).crane d = s.crane d :=
  by simp only [State.crane, State.releaseTruck_cranes]
@[simp] theorem State.releaseTruck_spanOf (c : Slot) (f : Flight) (d : Slot) :
    (s.releaseTruck c f).spanOf d = s.spanOf d :=
  by simp only [State.spanOf, State.releaseTruck_span]
@[simp] theorem State.releaseTruck_override (c : Slot) (f : Flight) (d : Slot) :
    (s.releaseTruck c f).override d = s.override d :=
  by simp only [State.override, State.releaseTruck_overrides]
@[simp] theorem State.releaseTruck_watch (c : Slot) (f : Flight) (d : Slot) :
    (s.releaseTruck c f).watch d = s.watch d :=
  by simp only [State.watch, State.releaseTruck_watches]
@[simp] theorem State.releaseTruck_gang (c : Slot) (f : Flight) (h : GangId) :
    (s.releaseTruck c f).gang h = s.gang h :=
  by simp only [State.gang, State.releaseTruck_gangs]
@[simp] theorem State.releaseTruck_queue (c : Slot) (f : Flight) (d : Slot) :
    (s.releaseTruck c f).queue d = s.queue d :=
  by simp only [State.queue, State.releaseTruck_queues]
@[simp] theorem State.releaseTruck_flight (c : Slot) (f : Flight) (d : Slot) :
    (s.releaseTruck c f).flight d = s.flight d :=
  by simp only [State.flight, State.releaseTruck_flights]
@[simp] theorem State.releaseTruck_pointer (c : Slot) (f : Flight) (d : Slot) :
    (s.releaseTruck c f).pointer d = s.pointer d :=
  by simp only [State.pointer, State.releaseTruck_pointers]
@[simp] theorem State.releaseTruck_alert (c : Slot) (f : Flight) (x : Alert) :
    (s.releaseTruck c f).alert x = s.alert x :=
  by simp only [State.alert, State.releaseTruck_alerts]
@[simp] theorem State.releaseTruck_sectionAt (c : Slot) (f : Flight) (j : Nat) :
    (s.releaseTruck c f).section? j = s.section? j :=
  by simp only [State.section?, State.releaseTruck_sections]
@[simp] theorem State.releaseTruck_fitted (c : Slot) (f : Flight) (d : Slot) :
    (s.releaseTruck c f).fitted d = s.fitted d :=
  by simp only [State.fitted, State.releaseTruck_config]
@[simp] theorem State.releaseTruck_concern (c : Slot) (f : Flight) (d : Slot) :
    (s.releaseTruck c f).concern d = s.concern d := by
  simp only [State.concern, State.west, State.east, State.releaseTruck_fitted, State.releaseTruck_config]
@[simp] theorem State.releaseTruck_port_crane (c : Slot) (f : Flight) (d : Slot) :
    (s.releaseTruck c f).port (.crane d) = s.port (.crane d) :=
  by simp only [State.port, State.releaseTruck_cranePorts]
@[simp] theorem State.releaseTruck_port_gang (c : Slot) (f : Flight) :
    (s.releaseTruck c f).port .gang = s.port .gang :=
  by simp only [State.port, State.releaseTruck_gangPort]
@[simp] theorem State.releaseTruck_port_plan (c : Slot) (f : Flight) :
    (s.releaseTruck c f).port .plan = s.port .plan :=
  by simp only [State.port, State.releaseTruck_planPort]

/-! ### landed -/

theorem State.changeSections_only (g : Section → Section) (is : List Nat) :
    is.foldl (fun s i => s.changeSection i g) s =
      { s with sections := (is.foldl (fun s i => s.changeSection i g) s).sections } :=
  foldl_only (fun s i => s.changeSection i g) (fun t u => { t with sections := u.sections })
    (fun _ => rfl) (fun _ _ _ => rfl) (fun t i => t.changeSection_only i g) is s
theorem State.loadDeckLanded_only (m : MoveRecord) : s.loadDeckLanded m =
    { s with sections := (s.loadDeckLanded m).sections } := by
  rw [State.loadDeckLanded, State.changeSections_only, State.changeSection_only]
theorem State.dischargeDeckLanded_only (m : MoveRecord) : s.dischargeDeckLanded m =
    { s with sections := (s.dischargeDeckLanded m).sections, alerts := (s.dischargeDeckLanded m).alerts,
             attn := (s.dischargeDeckLanded m).attn } := by
  rw [State.dischargeDeckLanded, State.raiseFor_only, State.changeSections_only]
/-- A fold that carries a mark beside the state changes of the state what its steps change. -/
theorem foldl_mark_only (g : State → MoveRecord → State) (mark : State → MoveRecord → Bool)
    (upd : State → State → State) (hself : ∀ s, upd s s = s) (htrans : ∀ s t u, upd (upd s t) u = upd s u)
    (h : ∀ s m, g s m = upd s (g s m)) (ms : List MoveRecord) (s : State) (b : Bool) :
    (ms.foldl (fun acc m => (g acc.1 m, acc.2 || mark acc.1 m)) (s, b)).1 =
      upd s (ms.foldl (fun acc m => (g acc.1 m, acc.2 || mark acc.1 m)) (s, b)).1 := by
  have fst : ∀ (ms : List MoveRecord) (s : State) (b : Bool),
      (ms.foldl (fun acc m => (g acc.1 m, acc.2 || mark acc.1 m)) (s, b)).1 = ms.foldl g s := by
    intro ms
    induction ms with
    | nil => intro s b; rfl
    | cons m rest ih => intro s b; rw [List.foldl_cons, ih]; rfl
  rw [fst]
  exact foldl_only g upd hself htrans h ms s
/-- `landed` can change no other field. -/
theorem State.landed_only (job : Job) (f : Footprint) (ms : List MoveRecord) : (s.landed job f ms).1 =
    { s with sections := ((s.landed job f ms).1).sections, alerts := ((s.landed job f ms).1).alerts, attn := ((s.landed job f ms).1).attn } := by
  unfold State.landed; split
  · exact foldl_mark_only State.loadDeckLanded State.loadDeckHeld
      (fun t u => { t with sections := u.sections, alerts := u.alerts, attn := u.attn })
      (fun _ => rfl) (fun _ _ _ => rfl) (fun t m => by rw [State.loadDeckLanded_only]) ms s false
  · exact foldl_mark_only State.dischargeDeckLanded (fun s m => !(s.tallyLowAt m).isEmpty)
      (fun t u => { t with sections := u.sections, alerts := u.alerts, attn := u.attn })
      (fun _ => rfl) (fun _ _ _ => rfl) (fun t m => by rw [State.dischargeDeckLanded_only]) ms s false
  · rw [State.setHatches, State.changeSections_only]
  · rw [State.setHatches, State.changeSections_only]
  all_goals rfl
@[simp] theorem State.landed_pending (job : Job) (f : Footprint) (ms : List MoveRecord) :
    ((s.landed job f ms).1).pending = s.pending :=
  by rw [State.landed_only]
@[simp] theorem State.landed_clock (job : Job) (f : Footprint) (ms : List MoveRecord) :
    ((s.landed job f ms).1).clock = s.clock :=
  by rw [State.landed_only]
@[simp] theorem State.landed_mode (job : Job) (f : Footprint) (ms : List MoveRecord) :
    ((s.landed job f ms).1).mode = s.mode :=
  by rw [State.landed_only]
@[simp] theorem State.landed_config (job : Job) (f : Footprint) (ms : List MoveRecord) :
    ((s.landed job f ms).1).config = s.config :=
  by rw [State.landed_only]
@[simp] theorem State.landed_overrides (job : Job) (f : Footprint) (ms : List MoveRecord) :
    ((s.landed job f ms).1).overrides = s.overrides :=
  by rw [State.landed_only]
@[simp] theorem State.landed_cranes (job : Job) (f : Footprint) (ms : List MoveRecord) :
    ((s.landed job f ms).1).cranes = s.cranes :=
  by rw [State.landed_only]
@[simp] theorem State.landed_span (job : Job) (f : Footprint) (ms : List MoveRecord) :
    ((s.landed job f ms).1).span = s.span :=
  by rw [State.landed_only]
@[simp] theorem State.landed_watches (job : Job) (f : Footprint) (ms : List MoveRecord) :
    ((s.landed job f ms).1).watches = s.watches :=
  by rw [State.landed_only]
@[simp] theorem State.landed_sensorLevels (job : Job) (f : Footprint) (ms : List MoveRecord) :
    ((s.landed job f ms).1).sensorLevels = s.sensorLevels :=
  by rw [State.landed_only]
@[simp] theorem State.landed_latches (job : Job) (f : Footprint) (ms : List MoveRecord) :
    ((s.landed job f ms).1).latches = s.latches :=
  by rw [State.landed_only]
@[simp] theorem State.landed_haltLine (job : Job) (f : Footprint) (ms : List MoveRecord) :
    ((s.landed job f ms).1).haltLine = s.haltLine :=
  by rw [State.landed_only]
@[simp] theorem State.landed_halted (job : Job) (f : Footprint) (ms : List MoveRecord) :
    ((s.landed job f ms).1).halted = s.halted :=
  by rw [State.landed_only]
@[simp] theorem State.landed_vessel (job : Job) (f : Footprint) (ms : List MoveRecord) :
    ((s.landed job f ms).1).vessel = s.vessel :=
  by rw [State.landed_only]
@[simp] theorem State.landed_gangs (job : Job) (f : Footprint) (ms : List MoveRecord) :
    ((s.landed job f ms).1).gangs = s.gangs :=
  by rw [State.landed_only]
@[simp] theorem State.landed_queues (job : Job) (f : Footprint) (ms : List MoveRecord) :
    ((s.landed job f ms).1).queues = s.queues :=
  by rw [State.landed_only]
@[simp] theorem State.landed_cursor (job : Job) (f : Footprint) (ms : List MoveRecord) :
    ((s.landed job f ms).1).cursor = s.cursor :=
  by rw [State.landed_only]
@[simp] theorem State.landed_flights (job : Job) (f : Footprint) (ms : List MoveRecord) :
    ((s.landed job f ms).1).flights = s.flights :=
  by rw [State.landed_only]
@[simp] theorem State.landed_stands (job : Job) (f : Footprint) (ms : List MoveRecord) :
    ((s.landed job f ms).1).stands = s.stands :=
  by rw [State.landed_only]
@[simp] theorem State.landed_laneMask (job : Job) (f : Footprint) (ms : List MoveRecord) :
    ((s.landed job f ms).1).laneMask = s.laneMask :=
  by rw [State.landed_only]
@[simp] theorem State.landed_pointers (job : Job) (f : Footprint) (ms : List MoveRecord) :
    ((s.landed job f ms).1).pointers = s.pointers :=
  by rw [State.landed_only]
@[simp] theorem State.landed_callCounter (job : Job) (f : Footprint) (ms : List MoveRecord) :
    ((s.landed job f ms).1).callCounter = s.callCounter :=
  by rw [State.landed_only]
@[simp] theorem State.landed_log (job : Job) (f : Footprint) (ms : List MoveRecord) :
    ((s.landed job f ms).1).log = s.log :=
  by rw [State.landed_only]
@[simp] theorem State.landed_backlog (job : Job) (f : Footprint) (ms : List MoveRecord) :
    ((s.landed job f ms).1).backlog = s.backlog :=
  by rw [State.landed_only]
@[simp] theorem State.landed_cranePorts (job : Job) (f : Footprint) (ms : List MoveRecord) :
    ((s.landed job f ms).1).cranePorts = s.cranePorts :=
  by rw [State.landed_only]
@[simp] theorem State.landed_lanePort (job : Job) (f : Footprint) (ms : List MoveRecord) :
    ((s.landed job f ms).1).lanePort = s.lanePort :=
  by rw [State.landed_only]
@[simp] theorem State.landed_gangPort (job : Job) (f : Footprint) (ms : List MoveRecord) :
    ((s.landed job f ms).1).gangPort = s.gangPort :=
  by rw [State.landed_only]
@[simp] theorem State.landed_planPort (job : Job) (f : Footprint) (ms : List MoveRecord) :
    ((s.landed job f ms).1).planPort = s.planPort :=
  by rw [State.landed_only]
@[simp] theorem State.landed_crane (job : Job) (f : Footprint) (ms : List MoveRecord) (d : Slot) :
    ((s.landed job f ms).1).crane d = s.crane d :=
  by simp only [State.crane, State.landed_cranes]
@[simp] theorem State.landed_spanOf (job : Job) (f : Footprint) (ms : List MoveRecord) (d : Slot) :
    ((s.landed job f ms).1).spanOf d = s.spanOf d :=
  by simp only [State.spanOf, State.landed_span]
@[simp] theorem State.landed_override (job : Job) (f : Footprint) (ms : List MoveRecord) (d : Slot) :
    ((s.landed job f ms).1).override d = s.override d :=
  by simp only [State.override, State.landed_overrides]
@[simp] theorem State.landed_watch (job : Job) (f : Footprint) (ms : List MoveRecord) (d : Slot) :
    ((s.landed job f ms).1).watch d = s.watch d :=
  by simp only [State.watch, State.landed_watches]
@[simp] theorem State.landed_gang (job : Job) (f : Footprint) (ms : List MoveRecord) (h : GangId) :
    ((s.landed job f ms).1).gang h = s.gang h :=
  by simp only [State.gang, State.landed_gangs]
@[simp] theorem State.landed_queue (job : Job) (f : Footprint) (ms : List MoveRecord) (d : Slot) :
    ((s.landed job f ms).1).queue d = s.queue d :=
  by simp only [State.queue, State.landed_queues]
@[simp] theorem State.landed_flight (job : Job) (f : Footprint) (ms : List MoveRecord) (d : Slot) :
    ((s.landed job f ms).1).flight d = s.flight d :=
  by simp only [State.flight, State.landed_flights]
@[simp] theorem State.landed_stand (job : Job) (f : Footprint) (ms : List MoveRecord) (d : Slot) (m : Lane) :
    ((s.landed job f ms).1).stand d m = s.stand d m :=
  by simp only [State.stand, State.landed_stands]
@[simp] theorem State.landed_pointer (job : Job) (f : Footprint) (ms : List MoveRecord) (d : Slot) :
    ((s.landed job f ms).1).pointer d = s.pointer d :=
  by simp only [State.pointer, State.landed_pointers]
@[simp] theorem State.landed_fitted (job : Job) (f : Footprint) (ms : List MoveRecord) (d : Slot) :
    ((s.landed job f ms).1).fitted d = s.fitted d :=
  by simp only [State.fitted, State.landed_config]
@[simp] theorem State.landed_concern (job : Job) (f : Footprint) (ms : List MoveRecord) (d : Slot) :
    ((s.landed job f ms).1).concern d = s.concern d := by
  simp only [State.concern, State.west, State.east, State.landed_fitted, State.landed_config]
@[simp] theorem State.landed_port (job : Job) (f : Footprint) (ms : List MoveRecord) (q : PortId) :
    ((s.landed job f ms).1).port q = s.port q := by
  simp only [State.port, State.landed_cranePorts, State.landed_lanePort, State.landed_gangPort, State.landed_planPort]

/-! ### failTruck -/

/-- `failTruck` can change no other field. -/
theorem State.failTruck_only (c : Slot) (f : Flight) (l : Lane) (cause : LostCause) : s.failTruck c f l cause =
    { s with flights := (s.failTruck c f l cause).flights, cranePorts := (s.failTruck c f l cause).cranePorts, alerts := (s.failTruck c f l cause).alerts, attn := (s.failTruck c f l cause).attn } := by
  rw [State.failTruck, State.raise_only, State.send_crane_only]; rfl
@[simp] theorem State.failTruck_pending (c : Slot) (f : Flight) (l : Lane) (cause : LostCause) :
    (s.failTruck c f l cause).pending = s.pending :=
  by rw [State.failTruck_only]
@[simp] theorem State.failTruck_clock (c : Slot) (f : Flight) (l : Lane) (cause : LostCause) :
    (s.failTruck c f l cause).clock = s.clock :=
  by rw [State.failTruck_only]
@[simp] theorem State.failTruck_mode (c : Slot) (f : Flight) (l : Lane) (cause : LostCause) :
    (s.failTruck c f l cause).mode = s.mode :=
  by rw [State.failTruck_only]
@[simp] theorem State.failTruck_config (c : Slot) (f : Flight) (l : Lane) (cause : LostCause) :
    (s.failTruck c f l cause).config = s.config :=
  by rw [State.failTruck_only]
@[simp] theorem State.failTruck_overrides (c : Slot) (f : Flight) (l : Lane) (cause : LostCause) :
    (s.failTruck c f l cause).overrides = s.overrides :=
  by rw [State.failTruck_only]
@[simp] theorem State.failTruck_cranes (c : Slot) (f : Flight) (l : Lane) (cause : LostCause) :
    (s.failTruck c f l cause).cranes = s.cranes :=
  by rw [State.failTruck_only]
@[simp] theorem State.failTruck_span (c : Slot) (f : Flight) (l : Lane) (cause : LostCause) :
    (s.failTruck c f l cause).span = s.span :=
  by rw [State.failTruck_only]
@[simp] theorem State.failTruck_watches (c : Slot) (f : Flight) (l : Lane) (cause : LostCause) :
    (s.failTruck c f l cause).watches = s.watches :=
  by rw [State.failTruck_only]
@[simp] theorem State.failTruck_sensorLevels (c : Slot) (f : Flight) (l : Lane) (cause : LostCause) :
    (s.failTruck c f l cause).sensorLevels = s.sensorLevels :=
  by rw [State.failTruck_only]
@[simp] theorem State.failTruck_latches (c : Slot) (f : Flight) (l : Lane) (cause : LostCause) :
    (s.failTruck c f l cause).latches = s.latches :=
  by rw [State.failTruck_only]
@[simp] theorem State.failTruck_haltLine (c : Slot) (f : Flight) (l : Lane) (cause : LostCause) :
    (s.failTruck c f l cause).haltLine = s.haltLine :=
  by rw [State.failTruck_only]
@[simp] theorem State.failTruck_halted (c : Slot) (f : Flight) (l : Lane) (cause : LostCause) :
    (s.failTruck c f l cause).halted = s.halted :=
  by rw [State.failTruck_only]
@[simp] theorem State.failTruck_vessel (c : Slot) (f : Flight) (l : Lane) (cause : LostCause) :
    (s.failTruck c f l cause).vessel = s.vessel :=
  by rw [State.failTruck_only]
@[simp] theorem State.failTruck_sections (c : Slot) (f : Flight) (l : Lane) (cause : LostCause) :
    (s.failTruck c f l cause).sections = s.sections :=
  by rw [State.failTruck_only]
@[simp] theorem State.failTruck_gangs (c : Slot) (f : Flight) (l : Lane) (cause : LostCause) :
    (s.failTruck c f l cause).gangs = s.gangs :=
  by rw [State.failTruck_only]
@[simp] theorem State.failTruck_queues (c : Slot) (f : Flight) (l : Lane) (cause : LostCause) :
    (s.failTruck c f l cause).queues = s.queues :=
  by rw [State.failTruck_only]
@[simp] theorem State.failTruck_cursor (c : Slot) (f : Flight) (l : Lane) (cause : LostCause) :
    (s.failTruck c f l cause).cursor = s.cursor :=
  by rw [State.failTruck_only]
@[simp] theorem State.failTruck_stands (c : Slot) (f : Flight) (l : Lane) (cause : LostCause) :
    (s.failTruck c f l cause).stands = s.stands :=
  by rw [State.failTruck_only]
@[simp] theorem State.failTruck_laneMask (c : Slot) (f : Flight) (l : Lane) (cause : LostCause) :
    (s.failTruck c f l cause).laneMask = s.laneMask :=
  by rw [State.failTruck_only]
@[simp] theorem State.failTruck_pointers (c : Slot) (f : Flight) (l : Lane) (cause : LostCause) :
    (s.failTruck c f l cause).pointers = s.pointers :=
  by rw [State.failTruck_only]
@[simp] theorem State.failTruck_callCounter (c : Slot) (f : Flight) (l : Lane) (cause : LostCause) :
    (s.failTruck c f l cause).callCounter = s.callCounter :=
  by rw [State.failTruck_only]
@[simp] theorem State.failTruck_log (c : Slot) (f : Flight) (l : Lane) (cause : LostCause) :
    (s.failTruck c f l cause).log = s.log :=
  by rw [State.failTruck_only]
@[simp] theorem State.failTruck_backlog (c : Slot) (f : Flight) (l : Lane) (cause : LostCause) :
    (s.failTruck c f l cause).backlog = s.backlog :=
  by rw [State.failTruck_only]
@[simp] theorem State.failTruck_lanePort (c : Slot) (f : Flight) (l : Lane) (cause : LostCause) :
    (s.failTruck c f l cause).lanePort = s.lanePort :=
  by rw [State.failTruck_only]
@[simp] theorem State.failTruck_gangPort (c : Slot) (f : Flight) (l : Lane) (cause : LostCause) :
    (s.failTruck c f l cause).gangPort = s.gangPort :=
  by rw [State.failTruck_only]
@[simp] theorem State.failTruck_planPort (c : Slot) (f : Flight) (l : Lane) (cause : LostCause) :
    (s.failTruck c f l cause).planPort = s.planPort :=
  by rw [State.failTruck_only]
@[simp] theorem State.failTruck_crane (c : Slot) (f : Flight) (l : Lane) (cause : LostCause) (d : Slot) :
    (s.failTruck c f l cause).crane d = s.crane d :=
  by simp only [State.crane, State.failTruck_cranes]
@[simp] theorem State.failTruck_spanOf (c : Slot) (f : Flight) (l : Lane) (cause : LostCause) (d : Slot) :
    (s.failTruck c f l cause).spanOf d = s.spanOf d :=
  by simp only [State.spanOf, State.failTruck_span]
@[simp] theorem State.failTruck_override (c : Slot) (f : Flight) (l : Lane) (cause : LostCause) (d : Slot) :
    (s.failTruck c f l cause).override d = s.override d :=
  by simp only [State.override, State.failTruck_overrides]
@[simp] theorem State.failTruck_watch (c : Slot) (f : Flight) (l : Lane) (cause : LostCause) (d : Slot) :
    (s.failTruck c f l cause).watch d = s.watch d :=
  by simp only [State.watch, State.failTruck_watches]
@[simp] theorem State.failTruck_gang (c : Slot) (f : Flight) (l : Lane) (cause : LostCause) (h : GangId) :
    (s.failTruck c f l cause).gang h = s.gang h :=
  by simp only [State.gang, State.failTruck_gangs]
@[simp] theorem State.failTruck_queue (c : Slot) (f : Flight) (l : Lane) (cause : LostCause) (d : Slot) :
    (s.failTruck c f l cause).queue d = s.queue d :=
  by simp only [State.queue, State.failTruck_queues]
@[simp] theorem State.failTruck_stand (c : Slot) (f : Flight) (l : Lane) (cause : LostCause) (d : Slot) (m : Lane) :
    (s.failTruck c f l cause).stand d m = s.stand d m :=
  by simp only [State.stand, State.failTruck_stands]
@[simp] theorem State.failTruck_pointer (c : Slot) (f : Flight) (l : Lane) (cause : LostCause) (d : Slot) :
    (s.failTruck c f l cause).pointer d = s.pointer d :=
  by simp only [State.pointer, State.failTruck_pointers]
@[simp] theorem State.failTruck_sectionAt (c : Slot) (f : Flight) (l : Lane) (cause : LostCause) (j : Nat) :
    (s.failTruck c f l cause).section? j = s.section? j :=
  by simp only [State.section?, State.failTruck_sections]
@[simp] theorem State.failTruck_fitted (c : Slot) (f : Flight) (l : Lane) (cause : LostCause) (d : Slot) :
    (s.failTruck c f l cause).fitted d = s.fitted d :=
  by simp only [State.fitted, State.failTruck_config]
@[simp] theorem State.failTruck_concern (c : Slot) (f : Flight) (l : Lane) (cause : LostCause) (d : Slot) :
    (s.failTruck c f l cause).concern d = s.concern d := by
  simp only [State.concern, State.west, State.east, State.failTruck_fitted, State.failTruck_config]
@[simp] theorem State.failTruck_port_lane (c : Slot) (f : Flight) (l : Lane) (cause : LostCause) :
    (s.failTruck c f l cause).port .lane = s.port .lane :=
  by simp only [State.port, State.failTruck_lanePort]
@[simp] theorem State.failTruck_port_gang (c : Slot) (f : Flight) (l : Lane) (cause : LostCause) :
    (s.failTruck c f l cause).port .gang = s.port .gang :=
  by simp only [State.port, State.failTruck_gangPort]
@[simp] theorem State.failTruck_port_plan (c : Slot) (f : Flight) (l : Lane) (cause : LostCause) :
    (s.failTruck c f l cause).port .plan = s.port .plan :=
  by simp only [State.port, State.failTruck_planPort]

/-! ### lapse -/

/-- `lapse` can change no other field. -/
theorem State.lapse_only (c : Slot) (l : Lane) (cause : LostCause) : s.lapse c l cause =
    { s with pointers := (s.lapse c l cause).pointers, callCounter := (s.lapse c l cause).callCounter, stands := (s.lapse c l cause).stands, flights := (s.lapse c l cause).flights, cranePorts := (s.lapse c l cause).cranePorts, lanePort := (s.lapse c l cause).lanePort, alerts := (s.lapse c l cause).alerts, attn := (s.lapse c l cause).attn } := by
  unfold State.lapse; split
  · rfl
  · dsimp only
    split
    · rw [State.attempt_only]; rfl
    · rw [State.failTruck_only]
@[simp] theorem State.lapse_pending (c : Slot) (l : Lane) (cause : LostCause) :
    (s.lapse c l cause).pending = s.pending :=
  by rw [State.lapse_only]
@[simp] theorem State.lapse_clock (c : Slot) (l : Lane) (cause : LostCause) : (s.lapse c l cause).clock = s.clock :=
  by rw [State.lapse_only]
@[simp] theorem State.lapse_mode (c : Slot) (l : Lane) (cause : LostCause) : (s.lapse c l cause).mode = s.mode :=
  by rw [State.lapse_only]
@[simp] theorem State.lapse_config (c : Slot) (l : Lane) (cause : LostCause) :
    (s.lapse c l cause).config = s.config :=
  by rw [State.lapse_only]
@[simp] theorem State.lapse_overrides (c : Slot) (l : Lane) (cause : LostCause) :
    (s.lapse c l cause).overrides = s.overrides :=
  by rw [State.lapse_only]
@[simp] theorem State.lapse_cranes (c : Slot) (l : Lane) (cause : LostCause) :
    (s.lapse c l cause).cranes = s.cranes :=
  by rw [State.lapse_only]
@[simp] theorem State.lapse_span (c : Slot) (l : Lane) (cause : LostCause) : (s.lapse c l cause).span = s.span :=
  by rw [State.lapse_only]
@[simp] theorem State.lapse_watches (c : Slot) (l : Lane) (cause : LostCause) :
    (s.lapse c l cause).watches = s.watches :=
  by rw [State.lapse_only]
@[simp] theorem State.lapse_sensorLevels (c : Slot) (l : Lane) (cause : LostCause) :
    (s.lapse c l cause).sensorLevels = s.sensorLevels :=
  by rw [State.lapse_only]
@[simp] theorem State.lapse_latches (c : Slot) (l : Lane) (cause : LostCause) :
    (s.lapse c l cause).latches = s.latches :=
  by rw [State.lapse_only]
@[simp] theorem State.lapse_haltLine (c : Slot) (l : Lane) (cause : LostCause) :
    (s.lapse c l cause).haltLine = s.haltLine :=
  by rw [State.lapse_only]
@[simp] theorem State.lapse_halted (c : Slot) (l : Lane) (cause : LostCause) :
    (s.lapse c l cause).halted = s.halted :=
  by rw [State.lapse_only]
@[simp] theorem State.lapse_vessel (c : Slot) (l : Lane) (cause : LostCause) :
    (s.lapse c l cause).vessel = s.vessel :=
  by rw [State.lapse_only]
@[simp] theorem State.lapse_sections (c : Slot) (l : Lane) (cause : LostCause) :
    (s.lapse c l cause).sections = s.sections :=
  by rw [State.lapse_only]
@[simp] theorem State.lapse_gangs (c : Slot) (l : Lane) (cause : LostCause) : (s.lapse c l cause).gangs = s.gangs :=
  by rw [State.lapse_only]
@[simp] theorem State.lapse_queues (c : Slot) (l : Lane) (cause : LostCause) :
    (s.lapse c l cause).queues = s.queues :=
  by rw [State.lapse_only]
@[simp] theorem State.lapse_cursor (c : Slot) (l : Lane) (cause : LostCause) :
    (s.lapse c l cause).cursor = s.cursor :=
  by rw [State.lapse_only]
@[simp] theorem State.lapse_laneMask (c : Slot) (l : Lane) (cause : LostCause) :
    (s.lapse c l cause).laneMask = s.laneMask :=
  by rw [State.lapse_only]
@[simp] theorem State.lapse_log (c : Slot) (l : Lane) (cause : LostCause) : (s.lapse c l cause).log = s.log :=
  by rw [State.lapse_only]
@[simp] theorem State.lapse_backlog (c : Slot) (l : Lane) (cause : LostCause) :
    (s.lapse c l cause).backlog = s.backlog :=
  by rw [State.lapse_only]
@[simp] theorem State.lapse_gangPort (c : Slot) (l : Lane) (cause : LostCause) :
    (s.lapse c l cause).gangPort = s.gangPort :=
  by rw [State.lapse_only]
@[simp] theorem State.lapse_planPort (c : Slot) (l : Lane) (cause : LostCause) :
    (s.lapse c l cause).planPort = s.planPort :=
  by rw [State.lapse_only]
@[simp] theorem State.lapse_crane (c : Slot) (l : Lane) (cause : LostCause) (d : Slot) :
    (s.lapse c l cause).crane d = s.crane d :=
  by simp only [State.crane, State.lapse_cranes]
@[simp] theorem State.lapse_spanOf (c : Slot) (l : Lane) (cause : LostCause) (d : Slot) :
    (s.lapse c l cause).spanOf d = s.spanOf d :=
  by simp only [State.spanOf, State.lapse_span]
@[simp] theorem State.lapse_override (c : Slot) (l : Lane) (cause : LostCause) (d : Slot) :
    (s.lapse c l cause).override d = s.override d :=
  by simp only [State.override, State.lapse_overrides]
@[simp] theorem State.lapse_watch (c : Slot) (l : Lane) (cause : LostCause) (d : Slot) :
    (s.lapse c l cause).watch d = s.watch d :=
  by simp only [State.watch, State.lapse_watches]
@[simp] theorem State.lapse_gang (c : Slot) (l : Lane) (cause : LostCause) (h : GangId) :
    (s.lapse c l cause).gang h = s.gang h :=
  by simp only [State.gang, State.lapse_gangs]
@[simp] theorem State.lapse_queue (c : Slot) (l : Lane) (cause : LostCause) (d : Slot) :
    (s.lapse c l cause).queue d = s.queue d :=
  by simp only [State.queue, State.lapse_queues]
@[simp] theorem State.lapse_sectionAt (c : Slot) (l : Lane) (cause : LostCause) (j : Nat) :
    (s.lapse c l cause).section? j = s.section? j :=
  by simp only [State.section?, State.lapse_sections]
@[simp] theorem State.lapse_fitted (c : Slot) (l : Lane) (cause : LostCause) (d : Slot) :
    (s.lapse c l cause).fitted d = s.fitted d :=
  by simp only [State.fitted, State.lapse_config]
@[simp] theorem State.lapse_concern (c : Slot) (l : Lane) (cause : LostCause) (d : Slot) :
    (s.lapse c l cause).concern d = s.concern d := by
  simp only [State.concern, State.west, State.east, State.lapse_fitted, State.lapse_config]

/-! ### appendLog -/

/-- `appendLog` can change no other field. -/
theorem State.appendLog_only (c : Slot) (tag : Nat) (rs : List CompletionRecord) : s.appendLog c tag rs =
    { s with log := (s.appendLog c tag rs).log, backlog := (s.appendLog c tag rs).backlog, alerts := (s.appendLog c tag rs).alerts, attn := (s.appendLog c tag rs).attn } := by
  rw [State.appendLog]; split
  · rw [State.raise_only]
  · rfl
@[simp] theorem State.appendLog_pending (c : Slot) (tag : Nat) (rs : List CompletionRecord) :
    (s.appendLog c tag rs).pending = s.pending :=
  by rw [State.appendLog_only]
@[simp] theorem State.appendLog_clock (c : Slot) (tag : Nat) (rs : List CompletionRecord) :
    (s.appendLog c tag rs).clock = s.clock :=
  by rw [State.appendLog_only]
@[simp] theorem State.appendLog_mode (c : Slot) (tag : Nat) (rs : List CompletionRecord) :
    (s.appendLog c tag rs).mode = s.mode :=
  by rw [State.appendLog_only]
@[simp] theorem State.appendLog_config (c : Slot) (tag : Nat) (rs : List CompletionRecord) :
    (s.appendLog c tag rs).config = s.config :=
  by rw [State.appendLog_only]
@[simp] theorem State.appendLog_overrides (c : Slot) (tag : Nat) (rs : List CompletionRecord) :
    (s.appendLog c tag rs).overrides = s.overrides :=
  by rw [State.appendLog_only]
@[simp] theorem State.appendLog_cranes (c : Slot) (tag : Nat) (rs : List CompletionRecord) :
    (s.appendLog c tag rs).cranes = s.cranes :=
  by rw [State.appendLog_only]
@[simp] theorem State.appendLog_span (c : Slot) (tag : Nat) (rs : List CompletionRecord) :
    (s.appendLog c tag rs).span = s.span :=
  by rw [State.appendLog_only]
@[simp] theorem State.appendLog_watches (c : Slot) (tag : Nat) (rs : List CompletionRecord) :
    (s.appendLog c tag rs).watches = s.watches :=
  by rw [State.appendLog_only]
@[simp] theorem State.appendLog_sensorLevels (c : Slot) (tag : Nat) (rs : List CompletionRecord) :
    (s.appendLog c tag rs).sensorLevels = s.sensorLevels :=
  by rw [State.appendLog_only]
@[simp] theorem State.appendLog_latches (c : Slot) (tag : Nat) (rs : List CompletionRecord) :
    (s.appendLog c tag rs).latches = s.latches :=
  by rw [State.appendLog_only]
@[simp] theorem State.appendLog_haltLine (c : Slot) (tag : Nat) (rs : List CompletionRecord) :
    (s.appendLog c tag rs).haltLine = s.haltLine :=
  by rw [State.appendLog_only]
@[simp] theorem State.appendLog_halted (c : Slot) (tag : Nat) (rs : List CompletionRecord) :
    (s.appendLog c tag rs).halted = s.halted :=
  by rw [State.appendLog_only]
@[simp] theorem State.appendLog_vessel (c : Slot) (tag : Nat) (rs : List CompletionRecord) :
    (s.appendLog c tag rs).vessel = s.vessel :=
  by rw [State.appendLog_only]
@[simp] theorem State.appendLog_sections (c : Slot) (tag : Nat) (rs : List CompletionRecord) :
    (s.appendLog c tag rs).sections = s.sections :=
  by rw [State.appendLog_only]
@[simp] theorem State.appendLog_gangs (c : Slot) (tag : Nat) (rs : List CompletionRecord) :
    (s.appendLog c tag rs).gangs = s.gangs :=
  by rw [State.appendLog_only]
@[simp] theorem State.appendLog_queues (c : Slot) (tag : Nat) (rs : List CompletionRecord) :
    (s.appendLog c tag rs).queues = s.queues :=
  by rw [State.appendLog_only]
@[simp] theorem State.appendLog_cursor (c : Slot) (tag : Nat) (rs : List CompletionRecord) :
    (s.appendLog c tag rs).cursor = s.cursor :=
  by rw [State.appendLog_only]
@[simp] theorem State.appendLog_flights (c : Slot) (tag : Nat) (rs : List CompletionRecord) :
    (s.appendLog c tag rs).flights = s.flights :=
  by rw [State.appendLog_only]
@[simp] theorem State.appendLog_stands (c : Slot) (tag : Nat) (rs : List CompletionRecord) :
    (s.appendLog c tag rs).stands = s.stands :=
  by rw [State.appendLog_only]
@[simp] theorem State.appendLog_laneMask (c : Slot) (tag : Nat) (rs : List CompletionRecord) :
    (s.appendLog c tag rs).laneMask = s.laneMask :=
  by rw [State.appendLog_only]
@[simp] theorem State.appendLog_pointers (c : Slot) (tag : Nat) (rs : List CompletionRecord) :
    (s.appendLog c tag rs).pointers = s.pointers :=
  by rw [State.appendLog_only]
@[simp] theorem State.appendLog_callCounter (c : Slot) (tag : Nat) (rs : List CompletionRecord) :
    (s.appendLog c tag rs).callCounter = s.callCounter :=
  by rw [State.appendLog_only]
@[simp] theorem State.appendLog_cranePorts (c : Slot) (tag : Nat) (rs : List CompletionRecord) :
    (s.appendLog c tag rs).cranePorts = s.cranePorts :=
  by rw [State.appendLog_only]
@[simp] theorem State.appendLog_lanePort (c : Slot) (tag : Nat) (rs : List CompletionRecord) :
    (s.appendLog c tag rs).lanePort = s.lanePort :=
  by rw [State.appendLog_only]
@[simp] theorem State.appendLog_gangPort (c : Slot) (tag : Nat) (rs : List CompletionRecord) :
    (s.appendLog c tag rs).gangPort = s.gangPort :=
  by rw [State.appendLog_only]
@[simp] theorem State.appendLog_planPort (c : Slot) (tag : Nat) (rs : List CompletionRecord) :
    (s.appendLog c tag rs).planPort = s.planPort :=
  by rw [State.appendLog_only]
@[simp] theorem State.appendLog_crane (c : Slot) (tag : Nat) (rs : List CompletionRecord) (d : Slot) :
    (s.appendLog c tag rs).crane d = s.crane d :=
  by simp only [State.crane, State.appendLog_cranes]
@[simp] theorem State.appendLog_spanOf (c : Slot) (tag : Nat) (rs : List CompletionRecord) (d : Slot) :
    (s.appendLog c tag rs).spanOf d = s.spanOf d :=
  by simp only [State.spanOf, State.appendLog_span]
@[simp] theorem State.appendLog_override (c : Slot) (tag : Nat) (rs : List CompletionRecord) (d : Slot) :
    (s.appendLog c tag rs).override d = s.override d :=
  by simp only [State.override, State.appendLog_overrides]
@[simp] theorem State.appendLog_watch (c : Slot) (tag : Nat) (rs : List CompletionRecord) (d : Slot) :
    (s.appendLog c tag rs).watch d = s.watch d :=
  by simp only [State.watch, State.appendLog_watches]
@[simp] theorem State.appendLog_gang (c : Slot) (tag : Nat) (rs : List CompletionRecord) (h : GangId) :
    (s.appendLog c tag rs).gang h = s.gang h :=
  by simp only [State.gang, State.appendLog_gangs]
@[simp] theorem State.appendLog_queue (c : Slot) (tag : Nat) (rs : List CompletionRecord) (d : Slot) :
    (s.appendLog c tag rs).queue d = s.queue d :=
  by simp only [State.queue, State.appendLog_queues]
@[simp] theorem State.appendLog_flight (c : Slot) (tag : Nat) (rs : List CompletionRecord) (d : Slot) :
    (s.appendLog c tag rs).flight d = s.flight d :=
  by simp only [State.flight, State.appendLog_flights]
@[simp] theorem State.appendLog_stand (c : Slot) (tag : Nat) (rs : List CompletionRecord) (d : Slot) (m : Lane) :
    (s.appendLog c tag rs).stand d m = s.stand d m :=
  by simp only [State.stand, State.appendLog_stands]
@[simp] theorem State.appendLog_pointer (c : Slot) (tag : Nat) (rs : List CompletionRecord) (d : Slot) :
    (s.appendLog c tag rs).pointer d = s.pointer d :=
  by simp only [State.pointer, State.appendLog_pointers]
@[simp] theorem State.appendLog_sectionAt (c : Slot) (tag : Nat) (rs : List CompletionRecord) (j : Nat) :
    (s.appendLog c tag rs).section? j = s.section? j :=
  by simp only [State.section?, State.appendLog_sections]
@[simp] theorem State.appendLog_fitted (c : Slot) (tag : Nat) (rs : List CompletionRecord) (d : Slot) :
    (s.appendLog c tag rs).fitted d = s.fitted d :=
  by simp only [State.fitted, State.appendLog_config]
@[simp] theorem State.appendLog_concern (c : Slot) (tag : Nat) (rs : List CompletionRecord) (d : Slot) :
    (s.appendLog c tag rs).concern d = s.concern d := by
  simp only [State.concern, State.west, State.east, State.appendLog_fitted, State.appendLog_config]
@[simp] theorem State.appendLog_port (c : Slot) (tag : Nat) (rs : List CompletionRecord) (q : PortId) :
    (s.appendLog c tag rs).port q = s.port q := by
  simp only [State.port, State.appendLog_cranePorts, State.appendLog_lanePort, State.appendLog_gangPort, State.appendLog_planPort]

/-! ### What the state computes does not depend on the ports -/

@[simp] theorem State.heard_geometry (p : PortId) (d : Slot) : (s.heard p).geometry d = s.geometry d := by
  cases p <;> rfl
@[simp] theorem State.send_geometry (p : PortId) (t : Telegram) (d : Slot) :
    (s.send p t).geometry d = s.geometry d := by
  rw [State.send_only]; rfl
@[simp] theorem State.heard_positionUsed (p : PortId) (d : Slot) : (s.heard p).positionUsed d = s.positionUsed d := by
  cases p <;> rfl
@[simp] theorem State.send_positionUsed (p : PortId) (t : Telegram) (d : Slot) :
    (s.send p t).positionUsed d = s.positionUsed d := by
  rw [State.send_only]; rfl
@[simp] theorem State.heard_uncertain (p : PortId) (d : Slot) : (s.heard p).uncertain d = s.uncertain d := by
  cases p <;> rfl
@[simp] theorem State.send_uncertain (p : PortId) (t : Telegram) (d : Slot) :
    (s.send p t).uncertain d = s.uncertain d := by
  rw [State.send_only]; rfl
@[simp] theorem State.heard_bounds (p : PortId) (d : Slot) : (s.heard p).bounds d = s.bounds d := by cases p <;> rfl
@[simp] theorem State.send_bounds (p : PortId) (t : Telegram) (d : Slot) : (s.send p t).bounds d = s.bounds d := by
  rw [State.send_only]; rfl
@[simp] theorem State.heard_window (p : PortId) (d : Slot) : (s.heard p).window d = s.window d := by cases p <;> rfl
@[simp] theorem State.send_window (p : PortId) (t : Telegram) (d : Slot) : (s.send p t).window d = s.window d := by
  rw [State.send_only]; rfl
@[simp] theorem State.heard_east (p : PortId) (d : Slot) : (s.heard p).east d = s.east d := by cases p <;> rfl
@[simp] theorem State.send_east (p : PortId) (t : Telegram) (d : Slot) : (s.send p t).east d = s.east d := by
  rw [State.send_only]; rfl
@[simp] theorem State.heard_west (p : PortId) (d : Slot) : (s.heard p).west d = s.west d := by cases p <;> rfl
@[simp] theorem State.send_west (p : PortId) (t : Telegram) (d : Slot) : (s.send p t).west d = s.west d := by
  rw [State.send_only]; rfl
@[simp] theorem State.heard_gap (p : PortId) (d e : Slot) : (s.heard p).gap d e = s.gap d e := by cases p <;> rfl
@[simp] theorem State.send_gap (p : PortId) (t : Telegram) (d e : Slot) : (s.send p t).gap d e = s.gap d e := by
  rw [State.send_only]; rfl
@[simp] theorem State.heard_tripped (p : PortId) (k : LineNo) : (s.heard p).tripped k = s.tripped k := by
  cases p <;> rfl
@[simp] theorem State.send_tripped (p : PortId) (t : Telegram) (k : LineNo) :
    (s.send p t).tripped k = s.tripped k := by
  rw [State.send_only]; rfl
@[simp] theorem State.heard_eastCondition (p : PortId) (d : Slot) (x : Window) :
    (s.heard p).eastCondition d x = s.eastCondition d x := by
  cases p <;> rfl
@[simp] theorem State.send_eastCondition (p : PortId) (t : Telegram) (d : Slot) (x : Window) :
    (s.send p t).eastCondition d x = s.eastCondition d x := by
  rw [State.send_only]; rfl
@[simp] theorem State.heard_westCondition (p : PortId) (d : Slot) (x : Window) :
    (s.heard p).westCondition d x = s.westCondition d x := by
  cases p <;> rfl
@[simp] theorem State.send_westCondition (p : PortId) (t : Telegram) (d : Slot) (x : Window) :
    (s.send p t).westCondition d x = s.westCondition d x := by
  rw [State.send_only]; rfl
@[simp] theorem State.heard_windowReply (p : PortId) (d : Slot) (held : Bool) :
    (s.heard p).windowReply d held = s.windowReply d held := by
  cases p <;> rfl
@[simp] theorem State.send_windowReply (p : PortId) (t : Telegram) (d : Slot) (held : Bool) :
    (s.send p t).windowReply d held = s.windowReply d held := by
  rw [State.send_only]; rfl
@[simp] theorem State.heard_sectionCount (p : PortId) : (s.heard p).sectionCount = s.sectionCount := by
  cases p <;> rfl
@[simp] theorem State.send_sectionCount (p : PortId) (t : Telegram) : (s.send p t).sectionCount = s.sectionCount := by
  rw [State.send_only]; rfl
@[simp] theorem State.heard_sectionNumbers (p : PortId) : (s.heard p).sectionNumbers = s.sectionNumbers := by
  cases p <;> rfl
@[simp] theorem State.send_sectionNumbers (p : PortId) (t : Telegram) :
    (s.send p t).sectionNumbers = s.sectionNumbers := by
  rw [State.send_only]; rfl
@[simp] theorem State.heard_claimNear (p : PortId) (i : Nat) : (s.heard p).claimNear i = s.claimNear i := by
  cases p <;> rfl
@[simp] theorem State.send_claimNear (p : PortId) (t : Telegram) (i : Nat) :
    (s.send p t).claimNear i = s.claimNear i := by
  rw [State.send_only]; rfl
@[simp] theorem State.heard_workPosition (p : PortId) (f : Footprint) :
    (s.heard p).workPosition f = s.workPosition f := by
  cases p <;> rfl
@[simp] theorem State.send_workPosition (p : PortId) (t : Telegram) (f : Footprint) :
    (s.send p t).workPosition f = s.workPosition f := by
  rw [State.send_only]; rfl
@[simp] theorem State.heard_poolCount (p : PortId) : (s.heard p).poolCount = s.poolCount := by cases p <;> rfl
@[simp] theorem State.send_poolCount (p : PortId) (t : Telegram) : (s.send p t).poolCount = s.poolCount := by
  rw [State.send_only]; rfl
@[simp] theorem State.heard_inPool (p : PortId) (tag : Nat) : (s.heard p).inPool tag = s.inPool tag := by
  cases p <;> rfl
@[simp] theorem State.send_inPool (p : PortId) (t : Telegram) (tag : Nat) :
    (s.send p t).inPool tag = s.inPool tag := by
  rw [State.send_only]; rfl
@[simp] theorem State.heard_flightRecords (p : PortId) (d : Slot) (f : Flight) :
    (s.heard p).flightRecords d f = s.flightRecords d f := by
  cases p <;> rfl
@[simp] theorem State.send_flightRecords (p : PortId) (t : Telegram) (d : Slot) (f : Flight) :
    (s.send p t).flightRecords d f = s.flightRecords d f := by
  rw [State.send_only]; rfl
@[simp] theorem State.heard_anyFlight (p : PortId) : (s.heard p).anyFlight = s.anyFlight := by cases p <;> rfl
@[simp] theorem State.send_anyFlight (p : PortId) (t : Telegram) : (s.send p t).anyFlight = s.anyFlight := by
  rw [State.send_only]; rfl
@[simp] theorem State.heard_anyGang (p : PortId) : (s.heard p).anyGang = s.anyGang := by cases p <;> rfl
@[simp] theorem State.send_anyGang (p : PortId) (t : Telegram) : (s.send p t).anyGang = s.anyGang := by
  rw [State.send_only]; rfl
@[simp] theorem State.heard_anyStand (p : PortId) : (s.heard p).anyStand = s.anyStand := by cases p <;> rfl
@[simp] theorem State.send_anyStand (p : PortId) (t : Telegram) : (s.send p t).anyStand = s.anyStand := by
  rw [State.send_only]; rfl

end Sys2Proof.Machine
end

