-- ==== Sys2Proof/Laws/Ops.lean ====
section
/-! SUPPORT. What each shared operation can do, said once: its cases, and the reads it changes. -/

namespace Sys2Proof.Machine

variable (s : State)

/-! ### Alerts (R164, R166, R167) -/

/-- A raise keeps a set flag and all else, or sets a clear flag with its detail and drives ATTN. -/
theorem State.raise_cases (a : Alert) (d : AlertDetail) :
    (∃ x, s.alert a = some x ∧ s.raise a d = s) ∨
    (s.alert a = none ∧ s.raise a d =
      { s with alerts := put s.alerts a.bit (some d),
               attn := attnLevel (put s.alerts a.bit (some d)) s.config.alertMask }) := by
  unfold State.raise
  cases h : s.alert a with
  | none => exact .inr ⟨rfl, rfl⟩
  | some x => exact .inl ⟨x, rfl, rfl⟩

/-- The number kept first is one of those raised. -/
theorem keptFirst_mem {now : Time} {ns : List Nat} {n : Nat} (h : keptFirst now ns = some n) : n ∈ ns := by
  match ns, h with
  | [a], h => simp only [keptFirst, Option.some.injEq] at h; simp [h]
  | a :: b :: rest, h =>
    simp only [keptFirst, Option.some.injEq] at h
    subst h
    generalize Config.firstRaised now (a :: b :: rest) = k
    have hk : k % (rest.length + 2) < (a :: b :: rest).length := Nat.mod_lt _ (by omega)
    rw [List.getD, List.getElem?_eq_getElem hk]
    exact List.getElem_mem hk

/-- A raise for several numbers is no raise when there is none, and a raise for one of them otherwise. -/
theorem State.raiseFor_cases (a : Alert) (ns : List Nat) (k : Nat → AlertDetail) :
    (ns = [] ∧ s.raiseFor a ns k = s) ∨ ∃ n ∈ ns, s.raiseFor a ns k = s.raise a (k n) := by
  unfold State.raiseFor
  cases h : keptFirst s.clock ns with
  | none =>
    left
    match ns, h with
    | [], _ => exact ⟨rfl, rfl⟩
    | [_], h => simp [keptFirst] at h
    | _ :: _ :: _, h => simp [keptFirst] at h
  | some n => exact .inr ⟨n, keptFirst_mem h, rfl⟩

/-- A mask built bit by bit holds the bits it began with and those of the numbers that pass. -/
theorem getLsbD_foldl_twoPow (f : Fin 12 → Bool) (i : Nat) (l : List (Fin 12)) (acc : BitVec 16) :
    (l.foldl (fun mask j => if f j then mask ||| BitVec.twoPow 16 j.val else mask) acc).getLsbD i =
      (acc.getLsbD i || l.any fun j => f j && decide (j.val = i)) := by
  induction l generalizing acc with
  | nil => simp
  | cons j l ih =>
    rw [List.foldl_cons, ih, List.any_cons]
    have hj : j.val < 16 := by omega
    cases f j <;> simp [BitVec.getLsbD_twoPow, hj, Bool.or_assoc]

/-- The alert mask shows a bit exactly where the flag of that bit is set (Table 11.4). -/
theorem getLsbD_alertFlags (v : Vector (Option AlertDetail) 12) (i : Nat) :
    (alertFlags v).getLsbD i = true ↔ ∃ j : Fin 12, j.val = i ∧ (entry v j).isSome = true := by
  have mem : ∀ j, j ∈ all12 := by decide
  unfold alertFlags
  simp only [getLsbD_foldl_twoPow (fun j => (entry v j).isSome) i all12 0#16, BitVec.getLsbD_zero, Bool.false_or,
    List.any_eq_true, Bool.and_eq_true, decide_eq_true_eq]
  exact ⟨fun ⟨j, _, h1, h2⟩ => ⟨j, h2, h1⟩, fun ⟨j, h2, h1⟩ => ⟨j, mem j, h1, h2⟩⟩

/-- The cleared alerts, flag by flag. -/
theorem entry_clearedAlerts (v : Vector (Option AlertDetail) 12) (mask : BitVec 16) (i : Fin 12) :
    entry (clearedAlerts v mask) i = if mask.getLsbD i.val then none else entry v i := by
  have step : ∀ (w : Vector (Option AlertDetail) 12) (j : Fin 12),
      entry (if mask.getLsbD j.val then put w j none else w) i =
        if i = j ∧ mask.getLsbD i.val = true then none else entry w i := by
    intro w j
    by_cases h : mask.getLsbD j.val = true
    · by_cases e : i = j
      · subst e; simp [h]
      · simp [h, e, entry_put_other _ _ e]
    · by_cases e : i = j
      · subst e; simp [h]
      · simp [h, e]
  have fold : ∀ (l : List (Fin 12)) (w : Vector (Option AlertDetail) 12),
      entry (l.foldl (fun v j => if mask.getLsbD j.val then put v j none else v) w) i =
        if i ∈ l ∧ mask.getLsbD i.val = true then none else entry w i := by
    intro l
    induction l with
    | nil => intro w; simp
    | cons a rest ih =>
      intro w
      rw [List.foldl_cons, ih, step]
      simp only [List.mem_cons]
      by_cases h : mask.getLsbD i.val = true
      · by_cases e : i = a
        · subst e; by_cases m : i ∈ rest <;> simp [h, m]
        · by_cases m : i ∈ rest <;> simp [h, e, m]
      · simp [h]
  have all : ∀ j : Fin 12, j ∈ all12 := by decide
  rw [clearedAlerts, fold]
  simp [all i]

/-! ### Telegrams (R178, R179) -/

/-- A telegram sent waits last on its port while the link is up, and is lost otherwise. -/
theorem State.send_cases (p : PortId) (t : Telegram) :
    ((s.port p).linkUp = true ∧ s.send p t = s.setPort p { s.port p with outbox := (s.port p).outbox ++ [t] }) ∨
    ((s.port p).linkUp = false ∧ s.send p t = s) := by
  unfold State.send
  cases (s.port p).linkUp <;> simp

/-- Telegrams inserted behind all that wait are sent. -/
theorem State.insertTelegrams_end (p : PortId) (t : Telegram) :
    s.insertTelegrams p (s.port p).outbox.length [t] = s.send p t := by
  unfold State.insertTelegrams State.send
  simp

@[simp] theorem State.heard_port_same (p : PortId) : (s.heard p).port p =
    { s.port p with rx := .hunt, linkUp := true, silence := some s.config.linkSilence } := by
  simp [State.heard]

theorem State.heard_port_other {p q : PortId} (h : q ≠ p) : (s.heard p).port q = s.port q := by
  simp [State.heard, port_setPort, h]

/-- The link hears a valid telegram: on a port that is up, or whose owner does nothing at link-up. -/
theorem State.telegramIn_heard {p : PortId} (h : p ≠ .lane ∨ (s.port p).linkUp = true) : s.telegramIn p = s.heard p := by
  unfold State.telegramIn
  cases hu : (s.port p).linkUp with
  | true => rfl
  | false => cases p <;> simp_all [State.heard]

/-- A lane telegram on a link that was down: heard, then the resync. -/
theorem State.telegramIn_laneDown (h : s.lanePort.linkUp = false) :
    s.telegramIn .lane = (s.heard .lane).laneLinkUp := by
  unfold State.telegramIn
  have : (s.port .lane).linkUp = false := h
  simp [this, State.heard]

/-- A request whose event puts nothing on its own port and answers one telegram: that telegram is sent after the event. -/
theorem State.answer_one (p : PortId) (event : State → State × List Telegram) (t : State) (x : Telegram)
    (h : event s = (t, [x])) (same : t.port p = s.port p) : s.answer p event = t.send p x := by
  rw [State.answer, h, ← same]
  exact t.insertTelegrams_end p x

/-- A request on a port that hears it as any other: the answer of its event. -/
theorem State.request_heard {α : Type} {p : PortId} (t : RequestType) (x : α) (event : α → State → State × List Telegram)
    (h : p ≠ .lane ∨ (s.port p).linkUp = true) :
    s.request p t (.fields x) event = .next ((s.heard p).answer p (event x)) := by
  rw [State.request, s.telegramIn_heard h]

/-- A malformed request is refused with BAD_VALUE. -/
theorem State.request_malformed {α : Type} {p : PortId} (t : RequestType) (event : α → State → State × List Telegram)
    (h : p ≠ .lane ∨ (s.port p).linkUp = true) :
    s.request p t .malformed event = .next ((s.heard p).send p (.refuse t .badValue .none)) := by
  rw [State.request, s.telegramIn_heard h]
  exact congrArg _ ((s.heard p).answer_one p _ (s.heard p) _ rfl rfl)

/-- A crane telegram on a fitted slot: the answer of its event. -/
theorem State.craneRequest_fitted {α : Type} (c : Slot) (t : RequestType) (x : α)
    (event : α → State → State × List Telegram) (h : s.fitted c = true) :
    s.craneRequest c t (.fields x) event = .next ((s.heard (.crane c)).answer (.crane c) (event x)) := by
  rw [State.craneRequest, s.request_heard _ _ _ (.inl (by simp))]
  simp [State.answer, h]

/-- A crane telegram on the port of an unfitted slot is refused with NOT_ACTIVE. -/
theorem State.craneRequest_unfitted {α : Type} (c : Slot) (t : RequestType) (x : α)
    (event : α → State → State × List Telegram) (h : s.fitted c = false) :
    s.craneRequest c t (.fields x) event = .next ((s.heard (.crane c)).send (.crane c) (.refuse t .notActive .none)) := by
  rw [State.craneRequest, s.request_heard _ _ _ (.inl (by simp))]
  exact congrArg _ ((s.heard (.crane c)).answer_one _ _ (s.heard (.crane c)) _ (by simp [h, refuse]) rfl)

/-! ### Footprints and claims (R71, R72, R76) -/

/-- Section `i` considered: nothing, or the head of its waiting list boards. -/
theorem State.consider_cases (i : Nat) :
    s.consider i = s ∨ ∃ r g rest, s.section? i = some r ∧ r.waiting = g :: rest ∧ r.gang = none ∧
      s.claimNear i = false ∧
      s.consider i = (s.changeSection i fun r => { r with gang := some g, waiting := rest }).boardWaiting g i := by
  unfold State.consider
  split
  · exact .inl rfl
  · rename_i r hs
    split
    · exact .inl rfl
    · rename_i g rest hw
      split
      · rename_i hf
        simp only [Bool.and_eq_true, Option.isNone_iff_eq_none, Bool.not_eq_true'] at hf
        exact .inr ⟨r, g, rest, hs, hw, hf.1, hf.2, rfl⟩
      · exact .inl rfl

/-! ### Stands (R142, R150, R153, R154) -/

/-- An attempt: nothing, or a call made in the first eligible lane. -/
theorem State.attempt_cases (c : Slot) :
    s.attempt c = s ∨ ∃ f m rest l, s.flight c = some f ∧ f.truck = .pending ∧ s.lanePort.linkUp = true ∧
      s.flightRecords c f = m :: rest ∧ s.chooseLane c (groupLaneMask (m :: rest)) = some l ∧
      s.attempt c = s.makeCall c f m l := by
  unfold State.attempt
  split
  · exact .inl rfl
  · rename_i f hf
    split
    · rename_i hp
      simp only [Bool.and_eq_true, beq_iff_eq] at hp
      split
      · exact .inl rfl
      · rename_i m rest hr
        split
        · exact .inl rfl
        · rename_i l hl
          exact .inr ⟨f, m, rest, l, hf, hp.1, hp.2, hr, hl, rfl⟩
    · exact .inl rfl

/-- The lanes common to the moves of a group (Table 6.3). -/
theorem has_groupLaneMask (l : Lane) : ∀ {ms : List MoveRecord}, ms ≠ [] →
    (has (groupLaneMask ms) l = true ↔ ∀ m ∈ ms, m.laneMask.getLsbD l.val = true)
  | [], h => absurd rfl h
  | [m], _ => by simp [groupLaneMask, has]
  | m :: n :: rest, _ => by
    have ih := has_groupLaneMask l (ms := n :: rest) (by simp)
    simp only [has] at ih
    simp only [groupLaneMask, has, BitVec.getLsbD_and, Bool.and_eq_true, ih]
    simp

/-- A lane is eligible: in the geometry's, the group's and the open mask, and its stand FREE (R143). -/
theorem State.eligible_iff {ms : List MoveRecord} (h : ms ≠ []) (c : Slot) (l : Lane) :
    s.eligible c (groupLaneMask ms) l = true ↔
      (s.geometry c).lanes.laneMask.getLsbD l.val = true ∧ (∀ m ∈ ms, m.laneMask.getLsbD l.val = true) ∧
        s.laneMask.getLsbD l.val = true ∧ s.stand c l = .free := by
  simp only [State.eligible, Bool.and_eq_true, has_groupLaneMask l h, beq_iff_eq, and_assoc]
  rfl

/-- The lane a search chooses is eligible. -/
theorem State.chooseLane_eligible {c : Slot} {mask : Mask} {l : Lane} (h : s.chooseLane c mask = some l) :
    s.eligible c mask l = true := List.find?_some h

/-- The truck of an ending group: nothing is done, its call is cancelled, or it departs. -/
theorem State.releaseTruck_cases (c : Slot) (f : Flight) :
    s.releaseTruck c f = s ∨
    (∃ l k due deadline held, f.truck = .called ∧ f.lane = some l ∧ s.stand c l = .called k due deadline held ∧
      s.releaseTruck c f = (s.setStand c l .free).send .lane (.cancel k.number c l)) ∨
    ∃ l k id, f.truck = .present ∧ f.lane = some l ∧ s.stand c l = .occupied k id ∧
      s.releaseTruck c f = (s.setStand c l (.released k.number id)).send .lane (.depart k.number c l id) := by
  unfold State.releaseTruck
  split
  · exact .inl rfl
  · rename_i l hl
    split
    · rename_i ht
      unfold State.cancelStand
      split
      · rename_i k due deadline held hs
        exact .inr (.inl ⟨l, k, due, deadline, held, ht, hl, hs, rfl⟩)
      · exact .inl rfl
    · rename_i ht
      unfold State.departStand
      split
      · rename_i k id hs
        exact .inr (.inr ⟨l, k, id, ht, hl, hs, rfl⟩)
      · exact .inl rfl
    all_goals exact .inl rfl

/-! ### Neighbours and what is shown of them (R7, R37, R40) -/

/-- In a list ascending by `R`, a search finds `d` exactly when `d` passes the test and nothing before it does. -/
theorem find?_ascending {α : Type} {R : α → α → Prop} (asymm : ∀ a b, R a b → ¬ R b a) {l : List α} (hl : l.Pairwise R)
    (p : α → Bool) {d : α} (hd : d ∈ l) :
    l.find? p = some d ↔ p d = true ∧ ∀ x ∈ l, R x d → p x = false := by
  rw [List.find?_eq_some_iff_append]
  constructor
  · rintro ⟨hp, before, behind, rfl, h⟩
    refine ⟨hp, fun x hx hr => ?_⟩
    rw [List.pairwise_append, List.pairwise_cons] at hl
    rcases List.mem_append.1 hx with hx | hx
    · simpa using h x hx
    · rcases List.mem_cons.1 hx with rfl | hx
      · exact absurd hr (asymm _ _ hr)
      · exact absurd hr (asymm _ _ (hl.2.1.1 x hx))
  · rintro ⟨hp, h⟩
    obtain ⟨before, behind, rfl⟩ := List.append_of_mem hd
    rw [List.pairwise_append] at hl
    exact ⟨hp, before, behind, rfl, fun x hx => by simp [h x (by simp [hx]) (hl.2.2 x hx d (by simp))]⟩

/-- The eight indices ascend, and descend when reversed. -/
theorem all8_ascending : all8.Pairwise (· < ·) ∧ all8.reverse.Pairwise (· > ·) := by decide

/-- The east neighbour is the nearest fitted slot of higher number (R7). -/
theorem State.east_eq_some (c d : Slot) : s.east c = some d ↔ s.nearestEast c d := by
  unfold State.east ConfigSet.eastNeighbour State.nearestEast State.fitted
  rw [find?_ascending (fun _ _ h => Nat.lt_asymm h) all8_ascending.1 _ (mem_all8 d)]
  simp only [Bool.and_eq_true, decide_eq_true_eq, and_assoc, Bool.and_eq_false_iff, decide_eq_false_iff_not]
  refine and_congr_right fun _ => and_congr_right fun _ => ⟨fun h x h1 h2 => ?_, fun h x _ h2 => ?_⟩
  · exact (h x (mem_all8 x) h2).resolve_left (absurd h1)
  · by_cases h1 : c < x
    · exact .inr (h x h1 h2)
    · exact .inl h1

/-- The west neighbour is the nearest fitted slot of lower number (R7). -/
theorem State.west_eq_some (c b : Slot) : s.west c = some b ↔ s.nearestWest c b := by
  unfold State.west ConfigSet.westNeighbour State.nearestWest State.fitted
  rw [find?_ascending (fun _ _ h => Nat.lt_asymm h) all8_ascending.2 _ (List.mem_reverse.2 (mem_all8 b))]
  simp only [Bool.and_eq_true, decide_eq_true_eq, and_assoc, Bool.and_eq_false_iff, decide_eq_false_iff_not]
  refine and_congr_right fun _ => and_congr_right fun _ => ⟨fun h x h1 h2 => ?_, fun h x _ h2 => ?_⟩
  · exact (h x (List.mem_reverse.2 (mem_all8 x)) h1).resolve_left (absurd h2)
  · by_cases h1 : x < c
    · exact .inr (h x h2 h1)
    · exact .inl h1

/-- No east neighbour: no fitted slot of higher number. -/
theorem State.east_eq_none (c : Slot) : s.east c = none ↔ ∀ d, ¬ s.nearestEast c d := by
  simp only [← State.east_eq_some, Option.eq_none_iff_forall_ne_some, ne_eq]

/-- No west neighbour: no fitted slot of lower number. -/
theorem State.west_eq_none (c : Slot) : s.west c = none ↔ ∀ b, ¬ s.nearestWest c b := by
  simp only [← State.west_eq_some, Option.eq_none_iff_forall_ne_some, ne_eq]

/-- A neighbour is uncertain unless it is ACTIVE and has reported (R37). -/
theorem State.uncertain_iff (d : Slot) :
    s.uncertain d = true ↔ ¬ ((s.crane d).slotState = .active ∧ (s.crane d).lastPosition ≠ none) := by
  simp only [State.uncertain, Bool.not_eq_true', Bool.and_eq_false_iff, beq_eq_false_iff_ne]
  cases (s.crane d).lastPosition <;> simp

/-- A bound as it is reported (R40). -/
theorem heldPosition_eq (x : Int) : (heldPosition x : Int) = max 0 (min 65535 x) := by
  simp only [heldPosition, hold]; omega

/-- A bound was held to be reported (R40). -/
theorem Window.held_iff (x : Window) : x.held = true ↔ x.lo < 0 ∨ 65535 < x.lo ∨ x.hi < 0 ∨ 65535 < x.hi := by
  simp [Window.held]; omega

/-! ### Re-evaluation (R41, R42) -/

/-- A crane's span record after a re-evaluation: anew from the inputs and the new watch states, or as it was. -/
theorem State.reevaluate_spanOf (cs : List Slot) (c : Slot) :
    (s.reevaluate cs).spanOf c =
      if c ∈ cs ∧ s.fitted c = true then
        ({ s with watches := s.watchesAfter cs } : State).evaluated c
      else s.spanOf c := by
  unfold State.reevaluate
  simp only [State.raiseFor_spanOf]
  simp only [State.driveSpan, State.spanOf, entry_table8]
  by_cases h : c ∈ cs ∧ s.fitted c = true
  · have : (cs.contains c && s.fitted c) = true := by simp [h.1, h.2]
    rw [if_pos h]
    exact if_pos this
  · have : ¬ (cs.contains c && s.fitted c) = true := by simpa using h
    rw [if_neg h]
    exact if_neg this

/-- The watch states after a re-evaluation. -/
theorem State.reevaluate_watches (cs : List Slot) : (s.reevaluate cs).watches = s.watchesAfter cs := by
  unfold State.reevaluate
  simp only [State.raiseFor_watches, State.driveSpan]

/-- The watch state of a pair after a re-evaluation. -/
theorem State.reevaluate_watch (cs : List Slot) (w : Slot) :
    (s.reevaluate cs).watch w =
      match s.config.pairEast w with
      | none => s.watch w
      | some e => if w ∈ cs ∨ e ∈ cs then some (watchAfter s.config (s.watch w) (s.gap w e)) else s.watch w := by
  rw [State.watch, s.reevaluate_watches, State.watchesAfter, entry_table8]
  cases s.config.pairEast w with
  | none => rfl
  | some e => simp [Bool.or_eq_true]

/-- What a re-evaluation reads: the inputs of a crane's window and permits (R41). -/
structure SameInputs (s t : State) : Prop where
  config : t.config = s.config
  mode : t.mode = s.mode
  halted : t.halted = s.halted
  overrides : t.overrides = s.overrides
  cranes : t.cranes = s.cranes
  flight : ∀ c, (t.flight c).isSome = (s.flight c).isSome
  goal : ∀ c, (t.spanOf c).goal = (s.spanOf c).goal
  sensors : t.sensorLevels = s.sensorLevels ∧ t.latches = s.latches

/-- States that agree on the inputs give the same bounds. -/
theorem SameInputs.bounds {s t : State} (h : SameInputs s t) (c : Slot) : t.bounds c = s.bounds c := by
  have geo : ∀ d, t.geometry d = s.geometry d := fun d => by
    simp only [State.geometry, State.override, State.crane, h.overrides, h.cranes]
  have pos : ∀ d, t.positionUsed d = s.positionUsed d := fun d => by
    simp only [State.positionUsed, State.crane, h.cranes, h.config]
  have unc : ∀ d, t.uncertain d = s.uncertain d := fun d => by simp only [State.uncertain, State.crane, h.cranes]
  simp only [State.bounds, State.westBound, State.eastBound, State.west, State.east, State.eastFace, State.westFace,
    State.rangeEast, State.rangeWest, State.widening, State.towardEast, State.towardWest, h.config, geo, pos, unc,
    h.goal, State.crane, h.cranes]

/-- With the same watch states too, they give the same permit conditions. -/
theorem SameInputs.conditions {s t : State} (h : SameInputs s t) (hw : t.watches = s.watches) (c : Slot) (w : Window) :
    t.eastCondition c w = s.eastCondition c w ∧ t.westCondition c w = s.westCondition c w := by
  have geo : ∀ d, t.geometry d = s.geometry d := fun d => by
    simp only [State.geometry, State.override, State.crane, h.overrides, h.cranes]
  have none : (t.flight c).isNone = (s.flight c).isNone := by
    have := h.flight c
    cases ht : t.flight c <;> cases hs : s.flight c <;> simp_all
  simp only [State.eastCondition, State.westCondition, State.mayTravel, State.trippedEast, State.trippedWest,
    State.tripped, State.eastNear, State.westNear, State.west, State.east, State.watch, State.positionUsed,
    State.crane, h.config, h.mode, h.halted, h.cranes, h.sensors.1, h.sensors.2, hw, geo, none]
  exact ⟨rfl, rfl⟩

/-! ### The log (R160, R163) -/

/-- An append reaches 192 from below, and raises LOG_BACKLOG, or it only appends. -/
theorem State.appendLog_cases (c : Slot) (tag : Nat) (rs : List CompletionRecord) :
    (s.log.length < 192 ∧ 192 ≤ s.log.length + rs.length ∧
      s.appendLog c tag rs = ({ s with log := s.log ++ rs, backlog := true } : State).raise .logBacklog
        (.backlog c tag (s.log.length + rs.length) s.clock)) ∨
    ((192 ≤ s.log.length ∨ s.log.length + rs.length < 192) ∧ s.appendLog c tag rs = { s with log := s.log ++ rs }) := by
  simp only [State.appendLog, List.length_append]
  by_cases h : s.log.length < 192 ∧ 192 ≤ s.log.length + rs.length
  · rw [if_pos h]; exact .inl ⟨h.1, h.2, rfl⟩
  · rw [if_neg h]; exact .inr ⟨by omega, rfl⟩

end Sys2Proof.Machine
end

