-- ==== Sys2Proof/Tests/Slice0.lean ====
section
/-! SUPPORT. Tests: what WellFormed refuses, the spec's worked figures, single commands on a small berth, and for each
statement with hypotheses a state and operands that meet them. -/

namespace Sys2Proof.Tests

open Sys2Proof Sys2Proof.Machine

/-! ### WellFormed refuses each ill-formed term -/

def sampleMove : MoveRequest :=
  { tag := 7, kind := 2, level := 1, bay := 2, size := 40, mark := 0, row := 2, height := 100, laneMask := 0xFF#8,
    lash := 4 }

def wideTag : MoveRequest := { sampleMove with tag := 65536 }
def wideHeight : MoveRequest := { sampleMove with height := 65536 }

def sampleVessel : VesselRequest :=
  { reference := 20000, heading := 1, pitch := 600, count := 4, trims := [0, 0, 0, 0], rowZero := 300, rowPitch := 250,
    rowCount := 10 }

theorem test_wellFormed_refuses_crane_fields :
    Instr.wellFormed (.position 0 (.fields { position := 65536, velocity := 0 })) = false ∧
    Instr.wellFormed (.position 0 (.fields { position := 0, velocity := 32768 })) = false ∧
    Instr.wellFormed (.position 0 (.fields { position := 0, velocity := -32769 })) = false ∧
    Instr.wellFormed (.travel 0 (.fields 65536)) = false ∧
    Instr.wellFormed (.phaseAloft 0 (.fields 65536)) = false ∧
    Instr.wellFormed (.phaseLanded 0 (.fields 65536)) = false ∧
    Instr.wellFormed (.abandon 0 (.fields 65536)) = false ∧
    Instr.wellFormed (.setBack 0 (.fields 65536)) = false := by decide

theorem test_wellFormed_refuses_other_rows_pages_and_phases :
    Instr.wellFormed (.joinPage12 0 (.above 3)) = false ∧ Instr.wellFormed (.joinPage12 0 (.above 256)) = false ∧
    Instr.wellFormed (.joinPage12 0 (.malformed 0)) = false ∧ Instr.wellFormed (.joinPage12 0 (.malformed 3)) = false ∧
    Instr.wellFormed (.joinPage12 0 (.malformed 256)) = false ∧
    Instr.wellFormed (.phaseLocked 0 (.fields { code := 3, tag := 1 })) = false ∧
    Instr.wellFormed (.phaseLocked 0 (.fields { code := 4, tag := 1 })) = false ∧
    Instr.wellFormed (.phaseLocked 0 (.fields { code := 256, tag := 1 })) = false ∧
    Instr.wellFormed (.phaseLocked 0 (.fields { code := 2, tag := 65536 })) = false := by decide

theorem test_wellFormed_refuses_stand_fields :
    Instr.wellFormed (.arrive (.fields { call := 65536, slot := 0, lane := 0, truck := 1 })) = false ∧
    Instr.wellFormed (.arrive (.fields { call := 1, slot := 256, lane := 0, truck := 1 })) = false ∧
    Instr.wellFormed (.arrive (.fields { call := 1, slot := 0, lane := 256, truck := 1 })) = false ∧
    Instr.wellFormed (.arrive (.fields { call := 1, slot := 0, lane := 0, truck := 65536 })) = false ∧
    Instr.wellFormed (.gone (.fields { slot := 0, lane := 0, truck := 65536 })) = false := by decide

theorem test_wellFormed_refuses_plan_fields :
    Instr.wellFormed (.openBerth (.fields { sampleVessel with reference := 65536 })) = false ∧
    Instr.wellFormed (.append (.fields { slot := 0, move := wideTag })) = false ∧
    Instr.wellFormed (.append (.fields { slot := 0, move := wideHeight })) = false ∧
    Instr.wellFormed (.insert (.fields { tag := 65536, move := sampleMove })) = false ∧
    Instr.wellFormed (.insert (.fields { tag := 1, move := wideTag })) = false ∧
    Instr.wellFormed (.replace (.fields { tag := 65536, move := sampleMove })) = false ∧
    Instr.wellFormed (.replace (.fields { tag := 1, move := wideHeight })) = false ∧
    Instr.wellFormed (.delete (.fields 65536)) = false ∧ Instr.wellFormed (.logFree (.fields 65536)) = false ∧
    Instr.wellFormed (.recall (.fields 65536)) = false := by decide

/-! ### The spec's worked figures -/

/-- The CRC of the nine bytes "123456789" (R175). -/
theorem test_crc_check_value :
    crcOf [0x31#8, 0x32#8, 0x33#8, 0x34#8, 0x35#8, 0x36#8, 0x37#8, 0x38#8, 0x39#8] = 0x29B1#16 := by decide +kernel

/-- The geometry of Table 3.4, with the hoist and lane figures of Table 8.4's first case. -/
def gantry : Geometry where
  rail := { westExtent := 1400, eastExtent := 1400, deceleration := 25, reactionTime := 600, maxSpeed := 80 }
  hoist := { hoistSpeed := 150, trolleySpeed := 400, lockTime := 40 }
  lanes := { laneMask := 0xFF#8, laneOffsets := #v[1000, 800, 900, 1200, 1300, 1400, 1500, 1600] }

/-- Table 3.1, and the default geometry at its maximum speed (R35). -/
theorem test_stopping_distances :
    [0, 15, 25, 30, 40, 50, 80].map (stoppingDistance gantry) = [0, 14, 28, 36, 56, 80, 176] ∧
    stoppingDistance defaultGeometry 255 = 3762 := by decide

/-- Table 1.3. -/
theorem test_neighbours :
    let cfg : ConfigSet := { ConfigSet.reset with fitted := 0x4D#8 }
    [0, 2, 3, 6].map cfg.westNeighbour = [none, some 0, some 2, some 3] ∧
    [0, 2, 3, 6].map cfg.eastNeighbour = [some 2, some 3, some 6, none] := by decide

/-- The vessel of Table 1.7. -/
def bowWest : Vessel :=
  { reference := 20000, heading := .bowWest, pitch := 650, count := 5, trims := [0, 0, 0, 0, 120], rowZero := 450,
    rowPitch := 250, rowCount := 14 }

/-- The vessel of Table 1.9. -/
def bowEast : Vessel :=
  { bowWest with reference := 40000, heading := .bowEast, pitch := 600, count := 3, trims := [0, -50, 11] }

/-- Tables 1.7 and 1.9, and the refused vessel after them. -/
theorem test_section_positions :
    sectionPositions bowWest = [20000, 20650, 21300, 21950, 22720] ∧
    sectionPositions bowEast = [40000, 39350, 38811] ∧
    positionsInRange { bowEast with reference := 1000, pitch := 800, trims := [0, 0, 0] } = false ∧
    outreach bowWest 13 = 3700 := by decide

/-- A part with a vessel open and nothing else. -/
def berthOf (v : Vessel) : State := { State.reset with vessel := some v, sections := createdSections v }

/-- Tables 1.6 and 1.8, and the bays of Table 1.9's vessel. -/
theorem test_work_positions :
    [5, 6, 8, 9].map (fun b => (berthOf bowWest).workPosition (bayFootprint b)) = [21300, 21625, 22335, 22720] ∧
    [2, 4].map (fun b => (berthOf bowEast).workPosition (bayFootprint b)) = [39675, 39080] := by decide

/-- Table 8.4: a DISCHARGE and a LOAD of crane 0. -/
theorem test_lead_times :
    let s : State := { berthOf bowWest with overrides := Vector.replicate 8 (some gantry) }
    let m : MoveRecord := { tag := 1, job := .discharge .deck, bay := 5, size := 20, mark := .single, row := 10,
                            height := 300, laneMask := 0xFF#8, lash := 0, state := .assigned }
    s.leadComputed 0 3 (.discharge .deck) m = 544 ∧ s.leadComputed 0 1 (.load .deck) { m with row := 4 } = 57 := by
  decide

/-- Table 3.6: the watch of one pair over five gaps. -/
theorem test_watch_hysteresis :
    let next := fun w g => watchAfter ConfigSet.reset w g
    next (some .clear) 2700 = .clear ∧ next (some .clear) 1499 = .near ∧ next (some .near) 1450 = .near ∧
    next (some .near) 1700 = .near ∧ next (some .near) 1800 = .clear := by decide

/-- Table 4.4, radius 2 around sections 2 and 12 of 12. -/
theorem test_exclusion_radius :
    let s : State := { berthOf { bowWest with count := 12, trims := List.replicate 12 0 } with
      config := { ConfigSet.reset with exclusionRadius := 2 } }
    s.sectionNumbers.filter (s.inRadius 2) = [1, 2, 3, 4] ∧
    s.sectionNumbers.filter (s.inRadius 12) = [10, 11, 12] := by decide

/-! ### Single commands on small berths -/

/-- The next state of an outcome. -/
def nextOf : Host.Outcome State Fault Refusal → Option State
  | .next t => some t
  | .fault _ => none
  | .refused _ => none

/-- The state after a command. -/
def after (i : Instr) (s : State) : State := (nextOf (exec i s)).getD s

/-- The newest telegram on a port. -/
def answerOn (s : State) (p : PortId) : Option Telegram := (s.port p).outbox.getLast?

/-- An ACTIVE crane of the geometry of Table 3.4. -/
def activeAt (p : Nat) (v : Int) : CraneRecord :=
  { CraneRecord.reset with
    slotState := .active, declared := some gantry, lastPosition := some p, lastVelocity := v,
    lastReportTime := some 0#32, reportTimer := some 300 }

def linked : Port := { Port.reset with linkUp := true, silence := some 1000 }

/-- A part in OPERATING with the QUAY-HALT line inactive and all links up. -/
def quiet : State :=
  { State.poweredOn .high (Vector.replicate 7 .low) with
    mode := .operating, laneMask := 0xFF#8, cranePorts := Vector.replicate 8 linked, lanePort := linked,
    gangPort := linked, planPort := linked }

/-- The two cranes of Table 3.4. -/
def casePair : State :=
  ({ quiet with
    config := { ConfigSet.reset with fitted := 0x0C#8, clearance := 400, westLimit := 5000, eastLimit := 40000 }
    cranes := put (put quiet.cranes 2 (activeAt 12000 50)) 3 (activeAt 17500 (-30)) } : State).reevaluate all8

/-- The text before Table 3.5: the window of crane 2 and its east permit. -/
theorem test_window_of_the_worked_case :
    casePair.window 2 = { lo := 6400, hi := 14264 } ∧ (casePair.spanOf 2).eastPermit = true := by decide

/-- Table 3.5: the grant takes crane 3's room and its west permit. -/
theorem test_travel_is_clamped :
    let t := after (.travel 2 (.fields 15000)) casePair
    (t.spanOf 2).goal = some 14264 ∧ t.window 3 = { lo := 17544, hi := 38600 } ∧
    (t.spanOf 3).westPermit = false ∧ (t.spanOf 3).eastPermit = true ∧
    answerOn t (.crane 2) = some (.travelGrant 14264 6400 14264 true false) := by decide

/-- The text after Table 3.5: crane 3 goes STALE, and crane 2 counts it as uncertain. -/
theorem test_report_limit_widens_the_neighbour :
    let t := after (.reportLimitExpiry 3) casePair
    (t.crane 3).slotState = .stale ∧ (t.window 2).hi = 14124 := by decide

/-- A velocity outside -255..255 is held, and WINDOW says so (R26). -/
theorem test_position_is_stored :
    let t := after (.position 3 (.fields { position := 18000, velocity := -300 })) casePair
    (t.crane 3).lastPosition = some 18000 ∧ (t.crane 3).lastVelocity = -255 ∧
    answerOn t (.crane 3) = some (t.windowReply 3 true) := by decide

/-- Table 3.3, first row: an unknown neighbour empties the window of crane 0. -/
theorem test_unknown_neighbour :
    let s : State := { quiet with
      config := { ConfigSet.reset with fitted := 0x03#8, park := put (Vector.replicate 8 0) 1 9000 }
      cranes := put quiet.cranes 0 { activeAt 2000 0 with
        declared := some { gantry with rail := { gantry.rail with westExtent := 1200, eastExtent := 1200 } } } }
    let t := s.reevaluate (s.concern 0)
    t.window 0 = { lo := 1200, hi := 1038 } ∧ (t.spanOf 0).eastPermit = false ∧ (t.spanOf 0).westPermit = true ∧
    t.alert .windowEmpty = some (.crane 0 0#32) := by decide

/-- A move of the yard below: a LOAD on DECK over sections 1 and 2. -/
def yardMove (tag : Nat) (st : MoveState) : MoveRecord :=
  { tag := tag, job := .load .deck, bay := 2, size := 40, mark := .single, row := 2, height := 100,
    laneMask := 0xFF#8, lash := 4, state := st }

def yardShip : Vessel :=
  { reference := 20000, heading := .bowWest, pitch := 600, count := 4, trims := [0, 0, 0, 0], rowZero := 300,
    rowPitch := 250, rowCount := 10 }

/-- The group of crane 1 in flight, its truck called to lane 3. -/
def yardFlight : Flight :=
  { first := 11, second := none, job := .load .deck, phase := .assigned, footprint := .two 1, workPosition := 20300,
    truck := .called, lane := some 3, truckId := none, recallCount := 0, takenTime := 0#32 }

def yardCall : Call := { number := 5, tags := [11], direction := .deliver, size := 40, railPosition := 20300 }

/-- Three cranes at work: crane 0 under way to 9000, crane 1 with a group in flight that holds a goal still, crane 2 free;
gang 0 aboard section 4 and gang 2 waiting there, gang 1 ashore; a truck on its way to stand (1, 3), another leaving
stand (0, 5). -/
def yard : State :=
  ({ quiet with
    config := { ConfigSet.reset with fitted := 0x07#8 }
    cranes := put (put (put quiet.cranes 0 (activeAt 10000 (-20))) 1 (activeAt 20300 0)) 2 (activeAt 40000 0)
    span := put (put quiet.span 0 { SpanRecord.reset with goal := some 9000 }) 1
      { SpanRecord.reset with goal := some 20300 }
    vessel := some yardShip
    sections := [
      { Section.created 20000 with claim := some 1 }, { Section.created 20600 with claim := some 1 },
      Section.created 21200, { Section.created 21800 with unlash := 12, gang := some 0, waiting := [2] }]
    gangs := put (put (put quiet.gangs 0 (.aboard 5 4 .unlash 0#32 false)) 1 (.ashore 6)) 2 (.waiting 4 4 .lash)
    queues := put quiet.queues 1 [yardMove 11 .assigned, yardMove 12 .queued]
    flights := put quiet.flights 1 (some yardFlight)
    stands := put (put quiet.stands 1 (put (Vector.replicate 8 .free) 3 (.called yardCall 100#32 400#32 false))) 0
      (put (Vector.replicate 8 .free) 5 (.released 2 77))
    pointers := put quiet.pointers 1 3
    callCounter := 6 } : State).reevaluate all8

/-- The yard with crane 1's queue as it is and no group in flight. -/
def calm : State :=
  ({ yard with
    flights := Vector.replicate 8 none, stands := Vector.replicate 8 (Vector.replicate 8 .free)
    queues := put quiet.queues 1 [yardMove 11 .queued, yardMove 12 .queued]
    sections := (yard.sections.map fun r => { r with claim := none, gang := none, waiting := [] })
    gangs := put (Vector.replicate 8 .off) 1 (.ashore 6) } : State).reevaluate all8

theorem test_take_claims_and_calls :
    let t := after (.take 1 (.fields ())) calm
    (t.flight 1).map (fun f => (f.first, f.workPosition, f.truck, f.lane)) = some (11, 20300, .called, some 4) ∧
    (t.section? 1).bind (fun r => r.claim) = some 1 ∧ (t.stand 1 4).name = .called ∧ t.callCounter = 7 ∧
    (t.spanOf 1).eastPermit = false := by decide +kernel

theorem test_arrive_is_taken :
    let t := after (.arrive (.fields { call := 5, slot := 1, lane := 3, truck := 900 })) yard
    t.stand 1 3 = .occupied yardCall 900 ∧ (t.flight 1).map (fun f => f.truck) = some .present ∧
    answerOn t (.crane 1) = some (.standReady 11 3 900) ∧
    answerOn t .lane = some (.laneAck (.arrived 1 3 .occupied [11] .deliver)) := by decide

/-- Table 4.3: 8 of 12 units, then more units than remain. -/
theorem test_units_count_down :
    ((after (.units (.fields { gang := 0, units := 8 })) yard).section? 4).map (fun r => r.unlash) = some 4 ∧
    ((after (.units (.fields { gang := 0, units := 14 })) yard).section? 4).map (fun r => r.unlash) = some 0 ∧
    answerOn (after (.units (.fields { gang := 0, units := 14 })) yard) .gang = some (.gangAck (.ok 0 false true true)) ∧
    (after (.units (.fields { gang := 0, units := 14 })) yard).alert .countOverrun = some (.gang 0 4 0#32) := by
  decide

/-- A gang exits, and the one that waited boards; the reply leaves before the GRANT (R77, R179). -/
theorem test_exit_grants_the_next_gang :
    let t := after (.exit (.fields 0)) yard
    t.gang 0 = .ashore 5 ∧ t.gang 2 = .aboard 4 4 .lash 0#32 false ∧
    t.gangPort.outbox = [.gangAck (.ok 0 false false false), .grant 2 4] := by decide

/-- LANES closes lane 3: the call there is withdrawn and made again in the next lane (R141, R143). -/
theorem test_lanes_closes_a_call :
    let t := after (.lanes (.fields 0xF7#8)) yard
    t.stand 1 3 = .free ∧ (t.stand 1 4).name = .called ∧ (t.flight 1).bind (fun f => f.lane) = some 4 ∧
    (t.lanePort.outbox.head?) = some (.laneAck (.lanes 0xF7#8 1)) := by decide

/-- The deadline of the call at stand (1, 3) is 400: not before it, at it (R149). -/
theorem test_call_deadline :
    after (.callDeadlineExpiry 1 3) { yard with clock := 399#32 } = { yard with clock := 399#32 } ∧
    (after (.callDeadlineExpiry 1 3) { yard with clock := 400#32 }).stand 1 3 = .free ∧
    ((after (.callDeadlineExpiry 1 3) { yard with clock := 400#32 }).flight 1).map (fun f => f.recallCount) = some 1 := by
  decide

/-- A load landing on deck adds to the tally of both sections and to the lash owed of the lower (R68, R69). -/
theorem test_landed_counts :
    let s := yard.setFlight 1 (some { yardFlight with phase := .aloft, truck := .departed })
    let t := after (.phaseLanded 1 (.fields 11)) (s.setStand 1 3 .free)
    (t.section? 1).map (fun r => (r.tally, r.lash, r.claim)) = some (1, 4, none) ∧
    (t.section? 2).map (fun r => (r.tally, r.lash, r.claim)) = some (1, 0, none) ∧
    t.flight 1 = none ∧ t.log.map (fun r => (r.tag, r.result)) = [(11, .done)] ∧
    (t.queue 1).map (fun m => m.tag) = [12] := by decide

/-- A frame of POSITION on CP3, byte by byte with the layout of Table 11.5, does what the command does. -/
theorem test_frame_of_a_position :
    nextOf (runAll ((frame 0x11#8 [0x46#8, 0x50#8, 0xFE#8, 0xD4#8]).map fun b => .byteArrival (.crane 3) b false)
      casePair) = nextOf (exec (.position 3 (.fields { position := 18000, velocity := -300 })) casePair) := by
  decide +kernel

/-- Table 3.8's kind of trip: line 2 in RISE mode goes high and latches; the alert names the line (R54, R56). -/
theorem test_rise_latches_a_trip :
    let s : State := { casePair with
      config := { casePair.config with sensorModes := put (Vector.replicate 7 .disabled) 2 .rise } }
    let t := after (.sensorLineChange 2 .high) s
    t.tripped 2 = true ∧ (t.spanOf 2).eastPermit = false ∧ t.alert .sensorTrip = some (.line 2 0#32) ∧
    t.alert .sensorDisagree = some (.gap 2 2700 0#32) ∧ (after (.sensorLineChange 2 .low) t).tripped 2 = true := by
  decide

/-- R49: the asserted east line of crane 2 conducts, or is driven high in the other drive; crane 0's is left open. -/
theorem test_permit_line_drive :
    casePair.eastLine 2 = .conducting ∧ casePair.eastLine 0 = .leftOpen ∧
    ({ casePair with config := { casePair.config with permitDrive := .pushPull } } : State).eastLine 2 = .drivenHigh := by
  decide

/-- Table 11.4: QUAY_HALT is bit 4 of the alert mask (R165). -/
theorem test_alert_read_shows_the_mask :
    answerOn (after (.alertRead (.fields ())) State.reset) .plan =
      some (.readReply (.alerts 0x0010#16 State.reset.alerts 0x0FFF#16 true) none) := by decide

/-- R82: a GANG_STATE refusal shows state, section and task. -/
theorem test_refusal_shows_the_gang :
    answerOn (after (.signOn (.fields { gang := 0, headcount := 3 })) yard) .gang =
      some (.refuse .signOn .gangState (.gang (.aboard 4 .unlash))) := by decide

/-! ### The hypotheses of the statements are met: invariants -/

/-- The yard as a gang's EXIT comes. -/
def yardStep : State := { yard with pending := [.exit (.fields 0)] }

theorem test_yard_spanSettled : SpanSettled yardStep :=
  ⟨by decide, by decide, by decide, by decide, by decide, by decide, by decide⟩

theorem test_meets_StepKeepsSpanSettled : SpanSettled yardStep ∧ ∃ t, step yardStep = .next t :=
  ⟨test_yard_spanSettled, _, rfl⟩

theorem test_yard_goalsApart : GoalsApart yardStep where
  held := by
    have h : ∀ c, (yardStep.spanOf c).goal = none ∨
      yardStep.fitted c = true ∧ yardStep.mode = .operating ∧ (yardStep.crane c).slotState = .active := by decide
    intro c g hg
    rcases h c with h | h
    · rw [h] at hg; cases hg
    · exact h
  apart := by
    have h : ∀ w e, yardStep.config.pairEast w = some e →
        (yardStep.spanOf w).goal = none ∨ (yardStep.spanOf e).goal = none ∨
        ((yardStep.spanOf w).goal.getD 0 : Int) + (yardStep.geometry w).rail.eastExtent + yardStep.config.clearance ≤
          ((yardStep.spanOf e).goal.getD 0 : Int) - (yardStep.geometry e).rail.westExtent := by decide
    intro w e gw ge hp hw he
    rcases h w e hp with h | h | h
    · rw [h] at hw; cases hw
    · rw [h] at he; cases he
    · rw [hw, he] at h; exact h

theorem test_meets_StepKeepsGoalsApart :
    SpanSettled yardStep ∧ GoalsApart yardStep ∧ (∃ t, step yardStep = .next t) ∧ (yardStep.spanOf 0).goal = some 9000 :=
  ⟨test_yard_spanSettled, test_yard_goalsApart, ⟨_, rfl⟩, by decide⟩

/-- The worked pair, a tick of the clock to come: both inner permits are asserted after it. -/
def pairStep : State := { casePair with pending := [.quayClockAdvance] }

theorem test_meets_PermitsAreSafe : SpanSettled pairStep ∧ ∃ t, step pairStep = .next t ∧
    t.config.pairEast 2 = some 3 ∧ (t.spanOf 2).eastPermit = true ∧ (t.spanOf 3).westPermit = true :=
  ⟨⟨by decide, by decide, by decide, by decide, by decide, by decide, by decide⟩, _, rfl, by decide, by decide, by decide⟩

/-- What holds of every listed section holds of every section. -/
theorem sections_all (s : State) (P : Nat → Section → Prop) (h : ∀ p ∈ s.sections.zipIdx 1, P p.2 p.1)
    (i : Nat) (r : Section) (hr : s.section? i = some r) : P i r := by
  cases i with
  | zero => cases hr
  | succ n =>
    refine h (r, n + 1) (List.mem_iff_getElem?.2 ⟨n, ?_⟩)
    have e : s.sections[n]? = some r := hr
    simp [List.getElem?_zipIdx, e, Nat.add_comm]

/-- A gang's place and whether it is aboard. -/
def placeOf : Gang → Option (Bool × Nat)
  | .aboard _ i _ _ _ => some (true, i)
  | .waiting _ i _ => some (false, i)
  | .off | .ashore _ => none

theorem aboardAt_iff (g : Gang) (i : Nat) : g.aboardAt i ↔ placeOf g = some (true, i) := by
  cases g <;> simp [Gang.aboardAt, placeOf]

theorem waitingAt_iff (g : Gang) (i : Nat) : g.waitingAt i ↔ placeOf g = some (false, i) := by
  cases g <;> simp [Gang.waitingAt, placeOf]

theorem test_yard_sectionsAgree : SectionsAgree yardStep where
  noVessel := by intro h; cases h
  count := by intro v hv; cases hv; rfl
  claims := by
    intro i r c hr
    have h : ∀ p ∈ yardStep.sections.zipIdx 1, ∀ c,
        p.1.claim = some c ↔ (yardStep.flight c).any (fun f => f.footprint.sections.contains p.2) = true := by decide
    rw [sections_all yardStep (fun i r => ∀ c, r.claim = some c ↔ (yardStep.flight c).any
      (fun f => f.footprint.sections.contains i) = true) h i r hr c]
    cases yardStep.flight c <;> simp
  aboard := by
    intro i r g hr
    rw [aboardAt_iff]
    exact sections_all yardStep (fun i r => ∀ g, r.gang = some g ↔ placeOf (yardStep.gang g) = some (true, i))
      (by decide) i r hr g
  waiting := by
    intro i r g hr
    rw [waitingAt_iff]
    exact sections_all yardStep (fun i r => ∀ g, g ∈ r.waiting ↔ placeOf (yardStep.gang g) = some (false, i))
      (by decide) i r hr g
  once := fun i r hr => sections_all yardStep (fun _ r => r.waiting.Nodup) (by decide) i r hr
  placed := by
    have h : ∀ g, placeOf (yardStep.gang g) = none ∨ placeOf (yardStep.gang g) = some (true, 4) ∨
      placeOf (yardStep.gang g) = some (false, 4) := by decide
    intro g i hi
    rw [aboardAt_iff, waitingAt_iff] at hi
    have e : i = 4 := by rcases h g with e | e | e <;> rcases hi with hi | hi <;> rw [e] at hi <;> cases hi <;> rfl
    subst e
    exact ⟨_, rfl⟩
  excluded := by
    intro i j r q hr hq
    exact sections_all yardStep (fun i r => ∀ p ∈ yardStep.sections.zipIdx 1, r.gang ≠ none → p.1.claim ≠ none →
      yardStep.config.exclusionRadius < distance i p.2) (by decide) i r hr (q, j)
      (by
        have := sections_all yardStep (fun j q => (q, j) ∈ yardStep.sections.zipIdx 1) (fun p hp => hp) j q hq
        exact this)
  setup := by intro h; cases h

theorem test_meets_StepKeepsSectionsAgree : SectionsAgree yardStep ∧ ∃ t, step yardStep = .next t :=
  ⟨test_yard_sectionsAgree, _, rfl⟩

/-- The one group in flight in the yard. -/
theorem yard_flights (c : Slot) (f : Flight) (h : yardStep.flight c = some f) : c = 1 ∧ f = yardFlight := by
  have all : ∀ c, yardStep.flight c = none ∨ c = 1 ∧ yardStep.flight c = some yardFlight := by decide
  rcases all c with e | ⟨e, e'⟩
  · rw [e] at h; cases h
  · rw [e'] at h; cases h; exact ⟨e, rfl⟩

theorem test_yard_storeAgrees : StoreAgrees yardStep where
  room := by decide
  tags := by decide
  idle := by decide
  lifting := by
    intro c f h
    obtain ⟨rfl, rfl⟩ := yard_flights c f h
    exact ⟨[], [yardMove 11 .assigned], [yardMove 12 .queued], by decide, by decide, by decide, by decide⟩

theorem test_meets_StepKeepsStoreAndLog :
    StoreAgrees yardStep ∧ LogBounded yardStep ∧ ∃ t, step yardStep = .next t :=
  ⟨test_yard_storeAgrees, ⟨by decide, by decide⟩, _, rfl⟩

theorem test_yard_standsAgree : StandsAgree yardStep where
  called := by
    have h : ∀ c l, (yardStep.stand c l).name = .called → c = 1 ∧ l = 3 := by decide
    intro c l k due deadline held e
    obtain ⟨rfl, rfl⟩ := h c l (by rw [e]; rfl)
    cases (show Stand.called yardCall 100#32 400#32 false = .called k due deadline held from e)
    exact ⟨yardFlight, by decide⟩
  occupied := by
    have h : ∀ c l, (yardStep.stand c l).name ≠ .occupied := by decide
    intro c l k id e
    exact absurd (by rw [e]; rfl) (h c l)
  trucks := by
    intro c f h
    obtain ⟨rfl, rfl⟩ := yard_flights c f h
    exact ⟨rfl, 3, yardCall, 100#32, 400#32, false, rfl, rfl⟩
  departed := by
    intro c f h
    obtain ⟨rfl, rfl⟩ := yard_flights c f h
    decide
  counter := by decide

theorem test_meets_StepKeepsStandsAgree : StandsAgree yardStep ∧ ∃ t, step yardStep = .next t :=
  ⟨test_yard_standsAgree, _, rfl⟩

theorem test_yard_unitsAgree : UnitsAgree yardStep where
  attn := by decide
  halt := by decide
  latch := by decide
  silence := by rintro (c | _ | _ | _) <;> first | (revert c; decide) | decide
  outbox := by rintro (c | _ | _ | _) <;> first | (revert c; decide) | decide
  joinTimer := by decide
  reportTimer := by decide
  unfitted := by decide
  drift := by
    have h : ∀ c, (yardStep.crane c).driftMark = false := by decide
    intro c hc
    rw [h c] at hc; cases hc

/-- A part with a join in progress and an override, every value stored in its range, about to take a step. -/
def ranged : State :=
  { yardStep with
    overrides := Vector.replicate 8 (some gantry)
    cranes := put yardStep.cranes 6 { yardStep.crane 6 with
      slotState := .joining (.awaitPage3 gantry.rail gantry.hoist), joinTimer := some 200 } }

theorem test_ranged_valuesInRange : ValuesInRange ranged where
  overrides := by
    have h : ∀ c, ranged.override c = some gantry := by decide
    intro c g hg
    rw [h c] at hg; cases hg; decide
  declared := by
    have h : ∀ c, (ranged.crane c).declared.all geometryInRange = true := by decide
    intro c g hg
    simpa [hg] using h c
  firstPage := by
    have h : ∀ c, (match (ranged.crane c).slotState with
      | .joining (.awaitPage2 one) => page1InRange one
      | _ => true) = true := by decide
    intro c one hc
    simpa [hc] using h c
  bothPages := by
    have h : ∀ c, (match (ranged.crane c).slotState with
      | .joining (.awaitPage3 one two) => page1InRange one && page2InRange two
      | _ => true) = true := by decide
    intro c one two hc
    simpa [hc] using h c
  velocity := by decide
  config := by constructor <;> decide

theorem test_meets_StepKeepsUnitsAgree :
    (UnitsAgree yardStep ∧ ∃ t, step yardStep = .next t) ∧ ValuesInRange ranged ∧ ∃ t, step ranged = .next t :=
  ⟨⟨test_yard_unitsAgree, _, rfl⟩, test_ranged_valuesInRange, _, rfl⟩

/-! ### The hypotheses of the statements are met: the span and the cranes -/

theorem test_meets_EveryCommandIsTaken : State.reset.pending = [] := rfl

theorem test_meets_StoppingDistance :
    0 < (yard.geometry 0).rail.deceleration ∧ yard.override 0 = none ∧ (yard.crane 0).declared = some gantry ∧
    (yard.crane 7).declared = none ∧ ({ yard with overrides := Vector.replicate 8 (some gantry) } : State).override 7 = some gantry ∧
    defaultGeometry.rail.reactionTime ≤ 2000 ∧ 10 ≤ defaultGeometry.rail.deceleration := by decide

theorem test_meets_StoppingDistanceInRange : ValuesInRange ranged := test_ranged_valuesInRange

theorem test_meets_BoundsOfAWindow :
    yard.nearestEast 0 1 ∧ yard.nearestWest 2 1 ∧ (∀ d, (2 : Slot) < d → yard.fitted d = false) ∧
    (∀ b, b < (0 : Slot) → yard.fitted b = false) ∧ (yard.crane 0).lastPosition = some 10000 ∧
    (yard.crane 7).lastPosition = none := by
  unfold State.nearestEast State.nearestWest; decide

theorem test_meets_PermitConditions :
    (casePair.crane 2).lastPosition = some 12000 ∧ (casePair.crane 2).lastVelocity = 50 ∧ casePair.fitted 2 = true ∧
    (casePair.crane 3).lastVelocity = -30 := by decide

theorem test_meets_FieldLinesAreFollowed :
    entry yard.sensorLevels 0 = .low ∧ entry yard.sensorLevels 6 ≠ .high := by decide

/-- The first row of Table 3.3 before its evaluation, and after it. -/
def blind0 : State :=
  { quiet with
    config := { ConfigSet.reset with fitted := 0x03#8, park := put (Vector.replicate 8 0) 1 9000 }
    cranes := put quiet.cranes 0 (activeAt 2000 0) }

def blind : State := blind0.reevaluate all8

theorem test_meets_ReevaluationOfCranes :
    blind0.fitted 0 = true ∧ (0 : Slot) ∈ all8 ∧ blind0.fitted 2 = false ∧ blind0.config.pairEast 0 = some 1 ∧
    blind0.config.pairEast 1 = none ∧ (blind.spanOf 0).emptyMark = true ∧ (blind0.spanOf 0).emptyMark = false ∧
    blind0.alert .windowEmpty = none ∧ blind.alert .windowEmpty = some (.crane 0 0#32) := by decide

theorem test_meets_AlertsAreRaisedReadAndAcknowledged :
    State.reset.alert .quayHalt = some (.halt 0#32) ∧ yard.alert .quayHalt = none ∧ (0xFFF#16).toNat < 4096 ∧
    4096 ≤ (0x1000#16).toNat := by decide

/-- Crane 0 of the yard in a slot state. -/
def inState (x : SlotState) (timer : Option Nat) : State :=
  yard.setCrane 0 { yard.crane 0 with slotState := x, joinTimer := timer, reportTimer := none }

/-- Page fields at the ends of their ranges (Table 2.2). -/
def edge1 : Page1 := { westExtent := 300, eastExtent := 2500, deceleration := 10, reactionTime := 2000, maxSpeed := 255 }
def edge2 : Page2 := { hoistSpeed := 50, trolleySpeed := 600, lockTime := 200 }
def edge3 : Page3 := { laneMask := 0x01#8, laneOffsets := Vector.replicate 8 6000 }

theorem test_meets_JoinPagesAreTaken :
    yard.fitted 0 = true ∧ ((inState (.joining .awaitPage1) (some 200)).crane 0).slotState = .joining .awaitPage1 ∧
    ((inState (.joining (.awaitPage2 edge1)) (some 200)).crane 0).slotState = .joining (.awaitPage2 edge1) ∧
    ((inState (.joining (.awaitPage3 edge1 edge2)) (some 200)).crane 0).slotState = .joining (.awaitPage3 edge1 edge2) ∧
    page1InRange edge1 = true ∧ page2InRange edge2 = true ∧ (∀ l, entry edge3.laneOffsets l ≤ 6000) := by decide

theorem test_meets_JoinPagesTurnedAway :
    yard.fitted 0 = true ∧ yard.fitted 7 = false ∧ ((inState .down none).crane 0).slotState ≠ .joining .awaitPage1 ∧
    ((inState (.joining .awaitPage1) none).crane 0).slotState = .joining .awaitPage1 ∧
    page1InRange { edge1 with westExtent := 299 } = false ∧ page2InRange { edge2 with lockTime := 201 } = false ∧
    page3InRange { edge3 with laneOffsets := Vector.replicate 8 6001 } = false := by decide

theorem test_meets_JoinPagesOutOfOrder :
    (∀ one, ((inState .down none).crane 0).slotState ≠ .joining (.awaitPage2 one)) ∧
    ∀ one two, ((inState .down none).crane 0).slotState ≠ .joining (.awaitPage3 one two) := by
  constructor
  · intro one h; cases h
  · intro one two h; cases h

theorem test_meets_SlotTimersRunOut :
    ((inState (.joining .awaitPage1) (some 200)).crane 0).slotState.isJoining = true ∧
    ((inState (.joining .awaitPage1) (some 200)).crane 0).joinTimer.isSome = true ∧ (yard.crane 0).joinTimer = none ∧
    (yard.crane 0).reportTimer.isSome = true ∧ ((inState .stale none).crane 0).reportTimer = none := by decide

theorem test_meets_PositionIsAccepted :
    yard.fitted 0 = true ∧ (yard.crane 0).slotState = .active ∧ ((inState .stale none).crane 0).slotState = .stale ∧
    (casePair.spanOf 2).window = some { lo := 6400, hi := 14264 } := by decide

theorem test_meets_CraneIsLost :
    yard.flight 1 = some yardFlight ∧ yard.flight 0 = none ∧ (yard.crane 0).slotState ≠ .down ∧
    ((inState .down none).crane 0).slotState = .down ∧ (State.reset.port .lane).silence = none ∧
    (yard.port .lane).silence ≠ none ∧ (yard.port (.crane 7)).silence ≠ none ∧ yard.fitted 7 = false := by decide

theorem test_meets_TravelGoals :
    yard.fitted 7 = false ∧ yard.fitted 0 = true ∧ State.reset.mode ≠ .operating ∧ yard.mode = .operating ∧
    yard.halted = false ∧ ({ yard with halted := true } : State).halted = true ∧
    ((inState .stale none).crane 0).slotState ≠ .active ∧ yard.flight 1 = some yardFlight ∧ yard.flight 0 = none ∧
    (blind.window 0).hi < (blind.window 0).lo ∧ (blind.crane 0).slotState = .active ∧ blind.flight 0 = none ∧
    0 ≤ (yard.window 0).lo ∧ (yard.window 0).lo ≤ (yard.window 0).hi ∧
    ((inState (.joining .awaitPage1) none).crane 0).slotState.isJoining = true := by decide

/-! ### The hypotheses of the statements are met: moves and sections -/

/-- A completion record. -/
def oldRecord : CompletionRecord :=
  { tag := 1, slot := 0, job := .load .deck, bay := 2, size := 40, lane := none, truckId := none, takenTime := 0#32,
    endTime := 0#32, recallCount := 0, result := .done }

/-- The calm yard with a log of `n` records. -/
def logged (n : Nat) : State := { calm with log := List.replicate n oldRecord }

/-- The calm yard with crane 1 away from its bay. -/
def away : State := calm.setCrane 1 (activeAt 20331 0)

theorem test_meets_TakeIsAnsweredInOrder :
    yard.fitted 1 = true ∧ yard.flight 1 = some yardFlight ∧ (yard.crane 1).slotState = .active ∧
    ((yard.setCrane 1 (yard.crane 7)).crane 1).slotState ≠ .active ∧ calm.flight 1 = none ∧ calm.queue 0 = [] ∧
    calm.queue 1 ≠ [] ∧ 192 ≤ (logged 192).log.length ∧ (logged 191).log.length < 192 := by decide +kernel

theorem test_meets_TakeWithNoReadyGroup :
    (∀ g ∈ away.candidates 1, away.groupRefusal 1 g ≠ none) ∧
    (groupsOf (away.queue 1)).head? = some (.single (yardMove 11 .queued)) ∧
    away.groupRefusal 1 (.single (yardMove 11 .queued)) = some (.notAtBay, .requiredPosition 20300) ∧
    Group.single (yardMove 11 .queued) ∈ away.candidates 1 := by decide

theorem test_meets_TakeTakesTheFirstReadyGroup :
    calm.fitted 1 = true ∧ calm.flight 1 = none ∧ calm.mode = .operating ∧ calm.halted = false ∧
    (calm.crane 1).slotState = .active ∧ calm.queue 1 ≠ [] ∧ calm.log.length < 192 ∧
    calm.candidates 1 = [] ++ .single (yardMove 11 .queued) :: [] ∧
    calm.groupRefusal 1 (.single (yardMove 11 .queued)) = none := by decide

/-- A group over section 3, next to the section of a gang aboard. -/
def besideGang : Group := .single { yardMove 13 .queued with bay := 5, size := 20 }

theorem test_meets_GroupIsCheckedBeforeATake :
    let g : Group := .single (yardMove 11 .queued)
    let s3 := (yard.setCrane 1 (activeAt 21200 0))
    let waiting : State := s3.changeSection 4 fun r => { r with gang := none }
    let lifted : State := calm.changeSection 2 fun r => { r with hatch := .lifted }
    (¬ away.config.bayTolerance < distance (yard.positionUsed 1) (yard.workPosition g.footprint)) ∧
    yard.section? 1 = some { Section.created 20000 with claim := some 1 } ∧ 1 ∈ g.footprint.sections ∧
    s3.groupRefusal 2 besideGang ≠ none ∧ s3.groupRefusal 1 besideGang = some (.gangAboard, .none) ∧
    waiting.groupRefusal 1 besideGang = some (.gangWaiting, .none) ∧
    lifted.groupRefusal 1 g = some (.hatchLifted, .none) ∧ calm.groupRefusal 1 g = none := by decide

/-- The yard with the group of crane 1 changed. -/
def withFlight (f : Flight) : State := yard.setFlight 1 (some f)

theorem test_meets_PhaseReportsAreTaken :
    yard.fitted 1 = true ∧ (withFlight yardFlight).flight 1 = some yardFlight ∧ (yard.crane 1).slotState = .active ∧
    ({ yardFlight with truck := .present } : Flight).phase = .assigned ∧ yardFlight.job.isLoad = true ∧
    yardFlight.truck ≠ .present ∧ ({ yardFlight with phase := .locked } : Flight).phase = .locked ∧
    ({ yardFlight with job := .hatchOff } : Flight).job.isLoad = false := by decide

theorem test_meets_TrucksAreReleased :
    yard.fitted 1 = true ∧ (yard.crane 1).slotState = .active ∧ yard.flight 1 = some yardFlight ∧
    yardFlight.truck = .called ∧ yardFlight.lane = some 3 ∧ yard.stand 1 3 = .called yardCall 100#32 400#32 false ∧
    (yard.setStand 1 3 (.occupied yardCall 900)).stand 1 3 = .occupied yardCall 900 ∧ yardFlight.job.isLoad = true := by
  decide

theorem test_meets_LandedCompletesTheGroup :
    yard.fitted 1 = true ∧ (withFlight { yardFlight with phase := .aloft, truck := .departed }).flight 1 =
      some { yardFlight with phase := .aloft, truck := .departed } ∧ (yard.crane 1).slotState = .active ∧
    yardFlight.job.isDischarge = false ∧ (Job.discharge .deck).isDischarge = true ∧ yardFlight.phase ≠ .aloft := by
  decide

theorem test_meets_LandingCountsOnTheSections :
    (bayFootprint 5).sections = [3] ∧ yard.section? 3 = some (Section.created 21200) ∧
    (Section.created 21200).tally = 0 ∧ yard.alert .tallyLow = none ∧ (bayFootprint 6).sections = [3, 4] ∧
    (yard.section? 4).map (fun r => r.tally) = some 0 ∧
    (yard.raise .tallyLow (.tally 3 9 0#32)).alert .tallyLow ≠ none := by decide

/-- The yard with crane 1 DOWN. -/
def lostCrane : State := yard.setCrane 1 { yard.crane 1 with slotState := .down, reportTimer := none }

theorem test_meets_GroupEndsWithoutLanding :
    yard.fitted 1 = true ∧ yard.flight 1 = some yardFlight ∧ (yard.crane 1).slotState = .active ∧
    yardFlight.phase ≠ .aloft ∧ ({ yardFlight with phase := .aloft, job := .hatchOn } : Flight).job.isLoad = false ∧
    (lostCrane.crane 1).slotState = .down ∧ lostCrane.flight 1 = some yardFlight ∧ (yard.crane 0).slotState ≠ .down ∧
    (State.reset.crane 0).slotState = .down ∧ State.reset.flight 0 = none := by decide

theorem test_meets_LogIsAppendedReadAndFreed :
    (logged 191).log.length < 192 ∧ 192 ≤ (logged 191).log.length + [oldRecord].length ∧
    192 ≤ (logged 192).log.length ∧ (logged 190).log.length + [oldRecord].length < 192 := by decide +kernel

theorem test_meets_GrantsFollowARelease :
    let s := yard.changeSection 4 fun r => { r with gang := none }
    s.section? 4 = some { Section.created 21800 with unlash := 12, waiting := [2] } ∧
    s.gang 2 = .waiting 4 4 .lash ∧ s.claimNear 4 = false ∧ yard.section? 3 = some (Section.created 21200) := by decide

/-! ### The hypotheses of the statements are met: stands and gangs -/

/-- The yard as its lane link is down. -/
def laneDown : State := { yard with lanePort := Port.reset }

theorem test_meets_LaneLinkComesUpFirst :
    telegramOf (.clear (.fields { slot := 0, lane := 5 })) = some (.lane, .clear) ∧ laneDown.lanePort.linkUp = false := by
  decide

/-- The group of crane 1 waiting for a truck, no stand taken. -/
def asking : State :=
  (withFlight { yardFlight with truck := .pending, lane := none }).setStand 1 3 .free

theorem test_meets_TruckIsCalledToAnEligibleLane :
    asking.flight 1 = some { yardFlight with truck := .pending, lane := none } ∧ asking.lanePort.linkUp = true ∧
    asking.flightRecords 1 { yardFlight with truck := .pending, lane := none } = [yardMove 11 .assigned] ∧
    asking.pointer 1 = 3 ∧ asking.eligible 1 0xFF#8 4 = true ∧ (∀ j : Fin 8, j < (4 : Lane) - (asking.pointer 1 + 1) → False) ∧
    yard.flight 0 = none ∧ laneDown.lanePort.linkUp = false ∧ yardFlight.truck ≠ .pending ∧
    (∀ l : Lane, ({ asking with laneMask := 0#8 } : State).laneMask.getLsbD l.val = false) := by decide

/-- A twin whose two lane masks have no lane in common: no lane is eligible (R103, R143). -/
theorem test_meets_TwinWithNoCommonLane :
    let s : State := { asking with
      queues := put asking.queues 1 [{ yardMove 11 .assigned with laneMask := 0x0F#8 },
        { yardMove 12 .assigned with laneMask := 0xF0#8 }]
      flights := put asking.flights 1 (some { yardFlight with second := some 12, truck := .pending, lane := none }) }
    s.lanePort.linkUp = true ∧
    (∀ l : Lane, (0x0F#8).getLsbD l.val = false ∨ (0xF0#8).getLsbD l.val = false) ∧
    (s.flightRecords 1 { yardFlight with second := some 12 }).map (fun m => m.laneMask) = [0x0F#8, 0xF0#8] := by decide

theorem test_meets_LanesAreOpenedAndClosed : yard.lanePort.linkUp = true ∧ (yard.stand 1 3).name = .called := by decide

theorem test_meets_TruckArrives :
    yard.lanePort.linkUp = true ∧ yard.stand 1 3 = .called yardCall 100#32 400#32 false ∧ yardCall.number = 5 ∧
    yard.flight 1 = some yardFlight ∧ yardCall.number ≠ 65535 ∧ yard.stand 7 7 = .free ∧
    (yard.stand 0 5).name = .released := by decide

theorem test_meets_TruckLeavesAndStandIsCleared :
    let s := (withFlight { yardFlight with truck := .present, phase := .locked }).setStand 1 3 (.occupied yardCall 900)
    s.lanePort.linkUp = true ∧ s.stand 1 3 = .occupied yardCall 900 ∧
    s.flight 1 = some { yardFlight with truck := .present, phase := .locked } ∧ s.stand 0 5 = .released 2 77 ∧
    s.stand 7 7 = .free ∧ ¬ (yardFlight.job.isLoad = true ∧ yardFlight.phase = .locked) := by decide

theorem test_meets_CallLapses :
    yard.flight 1 = some yardFlight ∧ yardFlight.recallCount + 1 ≤ yard.config.maxRecalls ∧
    yard.config.maxRecalls < ({ yardFlight with recallCount := 2 } : Flight).recallCount + 1 ∧
    (400#32 - 400#32).toNat < 2 ^ 31 ∧ 2 ^ 31 ≤ (399#32 - 400#32).toNat ∧ (yard.stand 0 5).name ≠ .called := by decide

theorem test_meets_RecallStartsTheTruckAfresh :
    yard.flight 1 = some yardFlight ∧ 11 ∈ yardFlight.tags ∧ yardMove 11 .assigned ∈ yard.queue 1 ∧
    yardMove 12 .queued ∈ yard.queue 1 ∧ 12 ∉ yardFlight.tags ∧ yardFlight.truck ≠ .failed ∧
    (∀ d, ∀ m ∈ yard.queue d, m.tag ≠ 13) := by decide

theorem test_meets_RecallOfAFailedTruck :
    (withFlight { yardFlight with truck := .failed }).flight 1 = some { yardFlight with truck := .failed } ∧
    ∀ d, (withFlight { yardFlight with truck := .failed }).flight d = none ∨ d = 1 := by decide

theorem test_meets_ShiftsStartAndEnd :
    yard.gang 7 = .off ∧ yard.gang 0 ≠ .off ∧ yard.gang 1 = .ashore 6 ∧ placeOf (yard.gang 2) = some (false, 4) := by decide

theorem test_meets_GangEntersOrWaits :
    yard.mode = .operating ∧ yard.gang 1 = .ashore 6 ∧ yard.vessel ≠ none ∧ 4 ≤ yard.sectionCount ∧
    yard.section? 3 = some (Section.created 21200) ∧ yard.section? 4 =
      some { Section.created 21800 with unlash := 12, gang := some 0, waiting := [2] } := by decide

theorem test_meets_GangTelegramsAreRefused :
    State.reset.mode ≠ .operating ∧ yard.mode = .operating ∧ yard.gang 1 = .ashore 6 ∧ yard.vessel ≠ none ∧
    ({ yard with vessel := none } : State).vessel = none ∧ yard.sectionCount < 5 ∧
    placeOf (yard.gang 7) = none := by decide

theorem test_meets_GangWorksAboard :
    yard.gang 0 = .aboard 5 4 .unlash 0#32 false ∧ (yard.section? 4).map (fun r => r.unlash) = some 12 ∧
    (yard.config.checkInterval : Int) < (6001#32 - 0#32).toInt ∧ (6000#32 - 0#32).toInt ≤ yard.config.checkInterval := by
  decide

theorem test_meets_GangLeavesItsSection :
    yard.gang 0 = .aboard 5 4 .unlash 0#32 false ∧ yard.gang 2 = .waiting 4 4 .lash := by decide

/-! ### The hypotheses of the statements are met: the planning system's requests -/

theorem test_meets_BerthAndSectionsAreSet :
    State.reset.vessel = none ∧ yard.vessel ≠ none ∧ positionsInRange yardShip = true ∧
    positionsInRange { yardShip with reference := 63736 } = false ∧ positionsInRange { yardShip with reference := 63735 } = true ∧
    (∀ c, (berthOf yardShip).flight c = none) ∧ (∀ g, ((berthOf yardShip).gang g).onVessel = false) ∧
    (∀ c l, (berthOf yardShip).stand c l = .free) ∧ yard.flight 1 ≠ none ∧ yard.sectionCount < 5 ∧
    (yard.section? 1).bind (fun r => r.claim) ≠ none ∧ yard.section? 3 = some (Section.created 21200) := by decide

theorem test_meets_EditsAreRefusedInOrder :
    1 ≤ yardShip.count ∧ State.reset.vessel = none ∧ (∀ d, ∀ y ∈ yard.queue d, y.tag ≠ 7) ∧
    yard.findTag 11 = some (1, 0, .assigned) ∧ yard.findTag 12 = some (1, 1, .queued) ∧ yard.vessel = some yardShip := by
  decide

theorem test_meets_EditsWithAReadRecord :
    (∃ r, readMove yardShip sampleMove = .ok r) ∧ (∃ e, readMove yardShip { sampleMove with bay := 8 } = .error e) :=
  ⟨⟨_, rfl⟩, _, rfl⟩

/-- Crane queues of the given lengths. -/
def stocked (n m : Nat) : State :=
  { yard with queues := put (put (Vector.replicate 8 (List.replicate n (yardMove 20 .queued))) 0
      (List.replicate m (yardMove 20 .queued))) 1 [yardMove 12 .queued] }

theorem test_meets_EditsWithNoRoom :
    160 ≤ ((stocked 0 160).queue 0).length ∧ ((stocked 106 3).queue 0).length < 160 ∧
    640 ≤ (stocked 106 3).poolCount ∧ (stocked 106 3).findTag 12 = some (1, 0, .queued) ∧
    (stocked 0 160).findTag 20 = some (0, 0, .queued) := by decide +kernel

theorem test_meets_EditsAreMade :
    yard.vessel = some yardShip ∧ yard.queue 1 = [yardMove 11 .assigned] ++ yardMove 12 .queued :: [] ∧
    (∀ d, ∀ y ∈ yard.queue d, y.tag = 12 → d = 1) ∧ (∀ y ∈ [yardMove 11 .assigned], y.tag ≠ 12) ∧
    (yard.queue 1).length < 160 ∧ yard.poolCount < 640 := by decide

theorem test_meets_GroupsAndFootprints :
    let a : MoveRecord := { yardMove 1 .queued with mark := .twinFirst, size := 20, bay := 5 }
    let b : MoveRecord := { yardMove 2 .queued with mark := .twinSecond, size := 20, bay := 7 }
    (a.job = b.job ∧ b.bay = a.bay + 2) ∧ (yardMove 1 .queued).mark = .single ∧ [a].head? ≠ some b ∧
    yard.section? 1 ≠ none ∧ yard.section? 2 ≠ none := by decide

theorem test_meets_QueuesAreRead :
    let s : State := { yard with cursor := { slot := 1, index := 1 } }
    groupsOf (s.queue s.cursor.slot) = [.single (yardMove 11 .assigned)] ++ .single (yardMove 12 .queued) :: [] ∧
    (Group.single (yardMove 12 .queued)).moves[0]? = some (yardMove 12 .queued) ∧ s.cursor.index = 1 ∧
    (yard.queue yard.cursor.slot).length ≤ yard.cursor.index := by decide

theorem test_meets_ModesChange :
    State.reset.mode = .setup ∧ yard.mode = .operating ∧ yard.flight 1 = some yardFlight ∧
    (∀ c, casePair.flight c = none) ∧ (∀ g, (casePair.gang g).onVessel = false) ∧
    ConfigSet.reset.westLimit < ConfigSet.reset.eastLimit ∧ State.reset.config.operateFault = none ∧
    yard.config.operateFault = some (.park 1) ∧
    ({ ConfigSet.reset with eastLimit := 0 } : ConfigSet).operateFault = some .limits ∧
    ({ ConfigSet.reset with sensorModes := put ConfigSet.reset.sensorModes 2 .high } : ConfigSet).operateFault =
      some (.line 2) := by decide

theorem test_meets_ConfigIsStored :
    let items : List ConfigItem := [.fitted 3, .park 1 9000, .sensorMode 0 (some .high), .alertMask 4095]
    1 ≤ items.length ∧ items.length ≤ 32 ∧
    (∀ i ∈ items, configNamed i = true ∧ configInRange i = true ∧
      (State.reset.mode = .operating → configSetupOnly i = false)) ∧
    (∀ i ∈ [ConfigItem.grace 100], yard.mode = .operating → configSetupOnly i = false) := by decide

/-- What begins at a CONFIG: a trip of a pair whose bodies are apart, the halt, a gang overdue, an empty mark. The last
needs a halt state that did not agree with its line. -/
theorem test_meets_ConfigBeginnings :
    (let s : State := { State.reset with haltLine := .high, halted := false, sensorLevels := Vector.replicate 7 .high,
                                         alerts := Vector.replicate 12 none }
     let t := after (.config (.fields [.fitted 3, .park 1 9000, .sensorMode 0 (some .high), .haltPolarity (some .high)])) s
     s.tripped 0 = false ∧ t.tripped 0 = true ∧ (t.config.nearDistance : Int) ≤ t.gap 0 1 ∧
     t.alert .sensorTrip = some (.line 0 0#32) ∧ t.alert .sensorDisagree = some (.gap 0 4000 0#32) ∧
     s.halted = false ∧ t.alert .quayHalt = some (.halt 0#32)) ∧
    (let s : State := { yard with clock := 700#32 }
     let t := after (.config (.fields [.checkInterval 600])) s
     s.gang 0 = .aboard 5 4 .unlash 0#32 false ∧ t.gang 0 = .aboard 5 4 .unlash 0#32 true ∧
     s.alert .gangOverdue = none ∧ t.alert .gangOverdue = some (.gang 0 4 700#32) ∧
     answerOn t .gang = some (.overdue 0 4 .unlash 5 0#32)) ∧
    (let s : State := { blind0 with halted := true }
     (s.spanOf 0).emptyMark = false ∧ ((after (.config (.fields [.grace 100])) s).spanOf 0).emptyMark = true) := by
  decide +kernel

/-- STATUS stands gives the fields of Table 8.1, so not the kept mark that the lead was held. -/
theorem test_stand_shows_the_fields_of_the_table :
    (Stand.called yardCall 100#32 400#32 true).shown = .called yardCall 100#32 400#32 := rfl

/-- STATUS shows of a gang waiting its place, of one aboard the time since its check. -/
theorem test_meets_StatusChangesNothing :
    (casePair.spanOf 2).window = some { lo := 6400, hi := 14264 } ∧ casePair.east 2 = some 3 ∧ casePair.west 2 = none ∧
    yard.gang 2 = .waiting 4 4 .lash ∧ (yard.section? 4).map (fun r => r.waiting) = some ([] ++ 2 :: []) ∧
    yard.gang 0 = .aboard 5 4 .unlash 0#32 false ∧ placeOf (yard.gang 1) = none := by decide

theorem test_meets_ConfigIsCheckedItemByItem :
    (∀ n, n = 32 → (List.replicate n (ConfigItem.grace 100)).length ≤ 32) ∧ configNamed (.park 8 0) = false ∧
    configNamed (.park 7 0) = true ∧ configSetupOnly (.clearance 100) = true ∧ configSetupOnly (.grace 100) = false ∧
    configInRange (.clearance 99) = false ∧ configInRange (.clearance 100) = true ∧ yard.mode = .operating ∧
    State.reset.mode = .setup := by
  refine ⟨?_, by decide, by decide, by decide, by decide, by decide, by decide, by decide, by decide⟩
  intro n h; simp [h]

theorem test_meets_OverrideIsStored :
    State.reset.mode = .setup ∧ yard.mode = .operating ∧ geometryInRange gantry = true ∧
    geometryInRange { gantry with rail := { gantry.rail with maxSpeed := 256 } } = false ∧
    geometryInRange { rail := edge1, hoist := edge2, lanes := edge3 } = true ∧ State.reset.override 0 = none ∧
    ({ State.reset with overrides := Vector.replicate 8 (some gantry) } : State).override 0 ≠ none := by decide

/-! ### The hypotheses of the statements are met: links -/

theorem test_meets_TimeAndLinkEvents :
    let s := yard.send .plan (.planAck .taken)
    (s.port .plan).linkUp = true ∧ (s.port .plan).outbox = [.planAck .taken] ∧ (laneDown.port .lane).linkUp = false ∧
    (s.port .plan).rx = .hunt ∧ ((s.setReceiver .plan .length).port .plan).rx = .length ∧
    ((s.setReceiver .plan (.type 200)).port .plan).rx = .type 200 ∧
    ((s.setReceiver .plan (.body 2 0x10#8 [])).port .plan).rx = .body 2 0x10#8 [] ∧
    ((s.setReceiver .plan (.check 1 0x10#8 [0#8] none)).port .plan).rx = .check 1 0x10#8 [0#8] none ∧
    ((s.setReceiver .plan (.check 1 0x10#8 [0#8] (some 1#8))).port .plan).rx = .check 1 0x10#8 [0#8] (some 1#8) ∧
    frameCrc 1 0x10#8 [0#8] ≠ 1#8 ++ 0#8 := by decide +kernel

theorem test_meets_FramesGoodAndBad :
    (yard.port .plan).rx = .hunt ∧ frameCrc 1 0x10#8 [0#8] ≠ 1#8 ++ 0#8 ∧ requestOf .lane 0x11#8 = none ∧
    (yardMove 65535 .queued).tag ≤ 65535 ∧ (∀ i ∈ yardFlight.footprint.sections, i ≤ 255) ∧
    (∀ n ∈ yardCall.tags, n ≤ 65535) ∧ (∃ a, yardCall.tags = [a]) := by
  refine ⟨by decide, by decide +kernel, by decide, by decide, by decide, by decide, 11, rfl⟩

theorem test_meets_FramedCommandIsTaken :
    Instr.wellFormed (.travel 7 (.fields 65535)) = true ∧
    spelled (.travel 7 (.fields 65535)) = some (.crane 7, 0x12#8, [0xFF#8, 0xFF#8]) ∧
    (yard.port (.crane 7)).rx = .hunt := by decide

theorem test_meets_ReplyLeavesBeforeNotices :
    telegramOf (.exit (.fields 0)) = some (.gang, .exit) ∧ ∃ t, exec (.exit (.fields 0)) yard = .next t :=
  ⟨rfl, _, rfl⟩

theorem test_meets_RequestsAreTurnedAway :
    malformedOn .gang .enter 0 = some (.enter .malformed) ∧ yard.lanePort.linkUp = true ∧
    malformedOn .lane .gone 0 = some (.gone .malformed) ∧ yard.fitted 7 = false ∧ yard.fitted 0 = true ∧
    ((inState .down none).crane 0).slotState = .down ∧ (yard.crane 1).slotState = .active ∧
    yard.flight 1 = some yardFlight ∧ yardFlight.first ≠ 12 := by decide

end Sys2Proof.Tests
end

/-! PROOFS. OPEN_BERTH, CLEAR_BERTH and SECTION_SET (R10 to R12, R64): what the three events do, case by case, and from
that the commands. -/

namespace Sys2Proof.Machine

/-! ### A planning system's request -/

section PlanRequests

variable {α : Type} {s u : State} {t : RequestType} {x : α} {event : α → State → State × List Telegram}

/-- A request whose event refuses: the refusal is all that is sent (R3). -/
theorem State.planRequest_refused {r : Reason} {i : RefuseInfo}
    (h : event x (s.heard .plan) = refuse t r i (s.heard .plan)) :
    s.request .plan t (.fields x) event = .next ((s.heard .plan).send .plan (.refuse t r i)) := by
  rw [s.request_heard t x event (.inl (by simp))]
  exact congrArg _ ((s.heard .plan).answer_one _ _ _ _ h rfl)

/-- A request whose event is acknowledged and leaves the planning system's port alone. -/
theorem State.planRequest_acked {a : PlanReply} (h : event x (s.heard .plan) = planAck a u)
    (same : u.port .plan = (s.heard .plan).port .plan) :
    s.request .plan t (.fields x) event = .next (u.send .plan (.planAck a)) := by
  rw [s.request_heard t x event (.inl (by simp))]
  exact congrArg _ ((s.heard .plan).answer_one _ _ _ _ h same)

end PlanRequests

/-! ### The vessel record (Table 1.4, R10) -/

/-- The request that asks for a vessel record. -/
def Vessel.asRequest (v : Vessel) : VesselRequest where
  reference := v.reference
  heading := v.heading.code
  pitch := v.pitch
  count := v.count
  trims := v.trims
  rowZero := v.rowZero
  rowPitch := v.rowPitch
  rowCount := v.rowCount

/-- The ranges of Table 1.4, and as many trims as sections (R11 check 2). -/
def Vessel.InRange (v : Vessel) : Prop :=
  v.reference ≤ 65535 ∧ 500 ≤ v.pitch ∧ v.pitch ≤ 800 ∧ 1 ≤ v.count ∧ v.count ≤ 48 ∧
    v.trims.length = v.count ∧ (∀ t ∈ v.trims, -300 ≤ t ∧ t ≤ 300) ∧ 200 ≤ v.rowZero ∧ v.rowZero ≤ 1500 ∧
    200 ≤ v.rowPitch ∧ v.rowPitch ≤ 300 ∧ 1 ≤ v.rowCount ∧ v.rowCount ≤ 25

theorem Vessel.InRange.trims_length {v : Vessel} (h : v.InRange) : v.trims.length = v.count := by
  obtain ⟨-, -, -, -, -, hlength, -⟩ := h
  exact hlength

/-- The position of section `k + 1` (R10). -/
def Vessel.place (v : Vessel) (k : Nat) : Int :=
  v.reference + (match v.heading with
    | .bowWest => (k : Int) * v.pitch
    | .bowEast => -((k : Int) * v.pitch)) + v.trims.getD k 0

/-- Every section lies at a rail position (R11 check 3). -/
def Vessel.PlacesOnRail (v : Vessel) : Prop := ∀ k, k < v.count → 0 ≤ v.place k ∧ v.place k ≤ 65535

@[simp] theorem headingOf_code (h : Heading) : headingOf h.code = some h := by cases h <;> rfl

theorem headingOf_eq_none {n : Nat} (h1 : n ≠ 1) (h2 : n ≠ 2) : headingOf n = none := by
  match n with
  | 0 | _ + 3 => rfl
  | 1 | 2 => contradiction

theorem within_iff {lo hi n : Nat} : within lo hi n = true ↔ lo ≤ n ∧ n ≤ hi := decide_eq_true_iff

theorem vesselOf_asRequest {v : Vessel} (h : v.InRange) : vesselOf v.asRequest = some v := by
  simpa [vesselOf, Vessel.asRequest, within_iff, Vessel.InRange, and_assoc] using h

theorem vesselOf_asRequest_eq_none {v : Vessel} (h : ¬ v.InRange) : vesselOf v.asRequest = none := by
  simpa [vesselOf, Vessel.asRequest, within_iff, Vessel.InRange, and_assoc] using h

theorem vesselOf_eq_none_of_heading {q : VesselRequest} (h1 : q.heading ≠ 1) (h2 : q.heading ≠ 2) :
    vesselOf q = none := by
  rw [vesselOf, headingOf_eq_none h1 h2]

theorem Heading.bowWest_sign_mul (k p : Int) : Heading.bowWest.sign * k * p = k * p := by
  rw [Heading.sign, Int.one_mul]

theorem Heading.bowEast_sign_mul (k p : Int) : Heading.bowEast.sign * k * p = -(k * p) := by
  rw [Heading.sign, Int.neg_mul, Int.neg_mul, Int.one_mul]

theorem sectionPositions_eq {v : Vessel} (h : v.trims.length = v.count) :
    sectionPositions v = (List.range v.count).map v.place := by
  apply List.ext_getElem
  · simp [sectionPositions, h]
  · intro k hk _
    have hk : k < v.trims.length := by simpa [sectionPositions] using hk
    cases hv : v.heading <;>
      simp [sectionPositions, Vessel.place, Heading.bowWest_sign_mul, Heading.bowEast_sign_mul, hv, hk]

theorem positionsInRange_iff {v : Vessel} (h : v.trims.length = v.count) :
    positionsInRange v = true ↔ v.PlacesOnRail := by
  simp [positionsInRange, sectionPositions_eq h, Vessel.PlacesOnRail]

theorem createdSections_eq {v : Vessel} (h : v.trims.length = v.count) :
    createdSections v = (List.range v.count).map fun k => Section.created (v.place k).toNat := by
  simp [createdSections, sectionPositions_eq h]

/-! ### OPEN_BERTH (R11) -/

section OpenBerth

variable {s : State} {q : VesselRequest} {v : Vessel}

theorem openBerthEvent_busy (h : s.vessel ≠ none) : openBerthEvent q s = refuse .openBerth .berthBusy .none s :=
  if_pos (Option.isSome_iff_ne_none.mpr h)

theorem openBerthEvent_badValue (h : s.vessel = none) (bad : vesselOf q = none) :
    openBerthEvent q s = refuse .openBerth .badValue .none s := by
  simp [openBerthEvent, h, bad]

theorem openBerthEvent_positionRange (h : s.vessel = none) (good : v.InRange) (off : ¬ v.PlacesOnRail) :
    openBerthEvent v.asRequest s = refuse .openBerth .positionRange .none s := by
  have off : ¬ positionsInRange v = true := mt (positionsInRange_iff good.trims_length).mp off
  simp [openBerthEvent, h, vesselOf_asRequest good, off]

theorem openBerthEvent_taken (h : s.vessel = none) (good : v.InRange) (on : v.PlacesOnRail) :
    openBerthEvent v.asRequest s = planAck .taken { s with
      vessel := some v
      sections := (List.range v.count).map fun k => Section.created (v.place k).toNat } := by
  have on : positionsInRange v = true := (positionsInRange_iff good.trims_length).mpr on
  simp [openBerthEvent, h, vesselOf_asRequest good, on, createdSections_eq good.trims_length]

end OpenBerth

/-! ### CLEAR_BERTH (R12) -/

/-- No group in flight, no gang ABOARD or WAITING and every stand FREE (R12). -/
def State.BerthIdle (s : State) : Prop :=
  (∀ c, s.flight c = none) ∧ (∀ g, (s.gang g).onVessel = false) ∧ ∀ c l, s.stand c l = .free

theorem Stand.name_eq_free (r : Stand) : r.name = .free ↔ r = .free := by cases r <;> simp [Stand.name]

/-- The three checks of CLEAR_BERTH find nothing exactly on an idle berth. -/
theorem State.berthIdle_iff (s : State) : s.BerthIdle ↔ (s.anyFlight || s.anyGang || s.anyStand) = false := by
  simp [State.BerthIdle, State.anyFlight, State.anyGang, State.anyStand, Stand.name_eq_free, and_assoc]

section ClearBerth

variable {s : State}

theorem clearBerthEvent_noVessel (h : s.vessel = none) :
    clearBerthEvent () s = refuse .clearBerth .noVessel .none s := by
  simp [clearBerthEvent, h]

theorem clearBerthEvent_busy (h : s.vessel ≠ none) (busy : ¬ s.BerthIdle) :
    clearBerthEvent () s = refuse .clearBerth .berthBusy .none s := by
  rw [s.berthIdle_iff, Bool.not_eq_false] at busy
  rw [clearBerthEvent, if_neg (by simpa using h), if_pos busy]

theorem clearBerthEvent_taken (h : s.vessel ≠ none) (idle : s.BerthIdle) :
    clearBerthEvent () s = planAck .taken { s with
      vessel := none, sections := [], queues := Vector.replicate 8 [] } := by
  rw [s.berthIdle_iff] at idle
  rw [clearBerthEvent, if_neg (by simpa using h), if_neg (by simp [idle])]

end ClearBerth

/-! ### SECTION_SET (R64) -/

theorem hatchOf_eq_none {n : Nat} (h : ¬ (n = 1 ∨ n = 2)) : hatchOf n = none := by
  match n with
  | 0 | _ + 3 => rfl
  | 1 | 2 => simp at h

theorem hatchOf_eq_some {n : Nat} (h : n = 1 ∨ n = 2) : hatchOf n = some (if n = 1 then .fitted else .lifted) := by
  obtain rfl | rfl := h <;> rfl

theorem requestHeld_eq (q : SectionRequest) :
    requestHeld q = decide (1023 < q.unlash ∨ 1023 < q.lash ∨ 255 < q.tally) := by
  simp [requestHeld, Bool.or_assoc]

section SectionSet

variable {s : State} {q : SectionRequest} {r : Section}

theorem sectionSetEvent_noVessel (h : s.vessel = none) :
    sectionSetEvent q s = refuse .sectionSet .noVessel .none s := by
  simp [sectionSetEvent, h]

theorem sectionSetEvent_sectionRange (h : s.vessel ≠ none) (out : q.index = 0 ∨ s.sectionCount < q.index) :
    sectionSetEvent q s = refuse .sectionSet .sectionRange .none s := by
  rw [sectionSetEvent, if_neg (by simpa using h), if_pos out]

theorem sectionSetEvent_badValue (h : s.vessel ≠ none) (pos : q.index ≠ 0) (le : q.index ≤ s.sectionCount)
    (bad : ¬ (q.hatch = 1 ∨ q.hatch = 2)) : sectionSetEvent q s = refuse .sectionSet .badValue .none s := by
  simp [sectionSetEvent, h, pos, Nat.not_lt.mpr le, hatchOf_eq_none bad]

theorem sectionSetEvent_busy (h : s.vessel ≠ none) (pos : q.index ≠ 0) (le : q.index ≤ s.sectionCount)
    (good : q.hatch = 1 ∨ q.hatch = 2) (found : s.section? q.index = some r) (busy : r.claim ≠ none ∨ r.gang ≠ none) :
    sectionSetEvent q s = refuse .sectionSet .sectionBusy .none s := by
  have busy : (r.claim.isSome || r.gang.isSome) = true := by simpa [Option.isSome_iff_ne_none] using busy
  simp [sectionSetEvent, h, pos, Nat.not_lt.mpr le, hatchOf_eq_some good, found, busy]

theorem sectionSetEvent_taken (h : s.vessel ≠ none) (pos : q.index ≠ 0) (le : q.index ≤ s.sectionCount)
    (good : q.hatch = 1 ∨ q.hatch = 2) (found : s.section? q.index = some r) (claim : r.claim = none)
    (gang : r.gang = none) :
    sectionSetEvent q s = planAck (.sectionSet (decide (1023 < q.unlash ∨ 1023 < q.lash ∨ 255 < q.tally)))
      (s.changeSection q.index fun x => x.replaced q (if q.hatch = 1 then .fitted else .lifted)) := by
  simp [sectionSetEvent, h, pos, Nat.not_lt.mpr le, hatchOf_eq_some good, found, claim, gang, requestHeld_eq]

end SectionSet

/-! ### The three commands -/

/-- Settles O46: each command is the answer of its event, and the event's cases are the clauses. -/
theorem berthAndSectionsAreSet : Obligations.BerthAndSectionsAreSet := by
  refine ⟨fun s v => ⟨?taken, ?busy, ?badValue, ?range, ?heading⟩, fun s => ⟨?cleared, ?noVessel, ?standing⟩,
    fun s q => ⟨?noBerth, ?index, fun hv pos le => ⟨?hatch, fun r found good => ⟨?occupied, ?replaced⟩⟩⟩⟩
  case taken =>
    intro hv good on
    exact State.planRequest_acked (t := .openBerth) (openBerthEvent_taken (by simpa using hv) good on) rfl
  case busy =>
    intro hv
    exact State.planRequest_refused (openBerthEvent_busy (by simpa using hv))
  case badValue =>
    intro hv bad
    exact State.planRequest_refused (openBerthEvent_badValue (by simpa using hv) (vesselOf_asRequest_eq_none bad))
  case range =>
    intro hv good off
    exact State.planRequest_refused (openBerthEvent_positionRange (by simpa using hv) good off)
  case heading =>
    intro x hv west east
    exact State.planRequest_refused (openBerthEvent_badValue (by simpa using hv) (vesselOf_eq_none_of_heading west east))
  case cleared =>
    intro hv idle
    exact State.planRequest_acked (t := .clearBerth) (clearBerthEvent_taken (by simpa using hv) idle) rfl
  case noVessel =>
    intro hv
    exact State.planRequest_refused (clearBerthEvent_noVessel (by simpa using hv))
  case standing =>
    intro hv busy
    exact State.planRequest_refused (clearBerthEvent_busy (by simpa using hv) busy)
  case noBerth =>
    intro hv
    exact State.planRequest_refused (sectionSetEvent_noVessel (by simpa using hv))
  case index =>
    intro hv out
    exact State.planRequest_refused (sectionSetEvent_sectionRange (by simpa using hv) (by simpa using out))
  case hatch =>
    intro bad
    exact State.planRequest_refused (sectionSetEvent_badValue (by simpa using hv) pos (by simpa using le) bad)
  case occupied =>
    intro busy
    exact State.planRequest_refused
      (sectionSetEvent_busy (by simpa using hv) pos (by simpa using le) good (by simpa using found) busy)
  case replaced =>
    intro claim gang
    exact State.planRequest_acked (t := .sectionSet)
      (sectionSetEvent_taken (by simpa using hv) pos (by simpa using le) good (by simpa using found) claim gang)
      (by simp)

end Sys2Proof.Machine

/-! PROOFS. Travel windows, permits and goals (R35 to R39, R43 to R45, R47): the stopping distance, the bounds of a window,
the permit conditions, and the two commands of a travel goal. -/

namespace Sys2Proof.Machine

/-! ### The stopping distance (R2, R35) -/

/-- A quotient rounded up is the least whole number that is enough (R2). -/
theorem ceilDiv_le_iff {n d x : Nat} (hd : 0 < d) : ceilDiv n d ≤ x ↔ n ≤ x * d := by
  rw [ceilDiv, Nat.div_le_iff_le_mul_add_pred hd, Nat.mul_comm d x]
  omega

@[simp] theorem ceilDiv_zero (d : Nat) : ceilDiv 0 d = 0 := by
  rw [ceilDiv, Nat.div_eq_zero_iff]
  omega

@[simp] theorem stoppingDistance_zero (g : Geometry) : stoppingDistance g 0 = 0 := by
  simp [stoppingDistance]

/-- The longest stopping distance of the ranges of Table 2.2: 510 to react and 3252 to brake. -/
theorem stoppingDistance_le {g : Geometry} {v : Nat} (hv : v ≤ 255) (hr : g.rail.reactionTime ≤ 2000)
    (hd : 10 ≤ g.rail.deceleration) : stoppingDistance g v ≤ 3762 := by
  have travel : v * g.rail.reactionTime ≤ 255 * 2000 := Nat.mul_le_mul hv hr
  have speed : v * v ≤ 255 * 255 := Nat.mul_le_mul hv hv
  have reaction : ceilDiv (v * g.rail.reactionTime) 1000 ≤ 510 := (ceilDiv_le_iff (by decide)).2 (by omega)
  have braking : ceilDiv (v * v) (2 * g.rail.deceleration) ≤ 3252 := (ceilDiv_le_iff (by omega)).2 (by omega)
  exact Nat.add_le_add reaction braking

/-! ### The geometry in force (R18) -/

section Geometry

variable {s : State} {c : Slot} {g : Geometry}

theorem State.geometry_of_override (h : s.override c = some g) : s.geometry c = g := by
  simp [State.geometry, h]

theorem State.geometry_of_declared (h : s.override c = none) (hd : (s.crane c).declared = some g) :
    s.geometry c = g := by
  simp [State.geometry, h, hd]

theorem State.geometry_of_neither (h : s.override c = none) (hd : (s.crane c).declared = none) :
    s.geometry c = defaultGeometry := by
  simp [State.geometry, h, hd]

/-- The two values of a geometry that a stopping distance turns on, in the ranges of Table 2.2. -/
theorem braking_of_geometryInRange (h : geometryInRange g = true) :
    10 ≤ g.rail.deceleration ∧ g.rail.reactionTime ≤ 2000 := by
  simp only [geometryInRange, page1InRange, Bool.and_eq_true, within_iff] at h
  omega

/-- A geometry in force was checked before it was stored, or is the default geometry. -/
theorem ValuesInRange.braking (h : ValuesInRange s) (c : Slot) :
    10 ≤ (s.geometry c).rail.deceleration ∧ (s.geometry c).rail.reactionTime ≤ 2000 := by
  cases ho : s.override c with
  | some g =>
    rw [State.geometry_of_override ho]
    exact braking_of_geometryInRange (h.overrides c g ho)
  | none =>
    cases hd : (s.crane c).declared with
    | some g =>
      rw [State.geometry_of_declared ho hd]
      exact braking_of_geometryInRange (h.declared c g hd)
    | none =>
      rw [State.geometry_of_neither ho hd]
      decide

end Geometry

/-- Settles O12: the two parts are the two rounded quotients of the definition. -/
theorem stoppingDistanceAddsTwoRoundedParts : Obligations.StoppingDistanceAddsTwoRoundedParts := by
  refine ⟨fun s k v hd => ⟨_, _, rfl, fun x => ceilDiv_le_iff (by decide), fun x => ceilDiv_le_iff (by omega)⟩,
    fun s k => ⟨fun g => State.geometry_of_override, fun g => State.geometry_of_declared, State.geometry_of_neither⟩,
    stoppingDistance_zero, fun g v => stoppingDistance_le, fun s hs k => ?_, by decide⟩
  obtain ⟨deceleration, reaction⟩ := hs.braking k
  exact ⟨deceleration, fun v hv => stoppingDistance_le hv reaction deceleration⟩

/-! ### What a window is computed from (R36, R37) -/

theorem westSpeed_eq (v : Int) : westSpeed v = if v < 0 then (-v).toNat else 0 := by
  unfold westSpeed
  split <;> omega

theorem eastSpeed_eq (v : Int) : eastSpeed v = if 0 < v then v.toNat else 0 := by
  unfold eastSpeed
  split <;> omega

section Inputs

variable {s : State} {c d : Slot}

theorem State.positionUsed_of_reported {p : Nat} (h : (s.crane c).lastPosition = some p) : s.positionUsed c = p := by
  simp [State.positionUsed, h]

theorem State.positionUsed_of_unreported (h : (s.crane c).lastPosition = none) :
    s.positionUsed c = entry s.config.park c := by
  simp [State.positionUsed, h]

theorem State.rangeWest_of_goal {g : Nat} (h : (s.spanOf d).goal = some g) :
    (s.rangeWest d : Int) = min (s.positionUsed d : Int) g := by
  simp only [State.rangeWest, h]
  omega

theorem State.rangeWest_of_noGoal (h : (s.spanOf d).goal = none) : s.rangeWest d = s.positionUsed d := by
  simp [State.rangeWest, h]

theorem State.rangeEast_of_goal {g : Nat} (h : (s.spanOf d).goal = some g) :
    (s.rangeEast d : Int) = max (s.positionUsed d : Int) g := by
  simp only [State.rangeEast, h]
  omega

theorem State.rangeEast_of_noGoal (h : (s.spanOf d).goal = none) : s.rangeEast d = s.positionUsed d := by
  simp [State.rangeEast, h]

variable (s d)

theorem State.uncertain_eq_false :
    s.uncertain d = false ↔ (s.crane d).slotState = .active ∧ (s.crane d).lastPosition ≠ none := by
  rw [← Bool.not_eq_true, s.uncertain_iff, Classical.not_not]

theorem State.widening_eq :
    s.widening d = if (s.crane d).slotState = .active ∧ (s.crane d).lastPosition ≠ none then 0
      else stoppingDistance (s.geometry d) (s.geometry d).rail.maxSpeed := by
  simp only [State.widening, ← s.uncertain_eq_false]
  cases s.uncertain d <;> rfl

/-- The stopping distance toward the west: an uncertain neighbour has no toward speed (R37). -/
theorem State.stoppingDistance_towardWest :
    stoppingDistance (s.geometry d) (s.towardWest d) =
      if (s.crane d).slotState = .active ∧ (s.crane d).lastPosition ≠ none then
        stoppingDistance (s.geometry d) (if (s.crane d).lastVelocity < 0 then (-(s.crane d).lastVelocity).toNat else 0)
      else 0 := by
  simp only [State.towardWest, ← s.uncertain_eq_false, ← westSpeed_eq]
  cases s.uncertain d <;> simp

/-- The stopping distance toward the east: an uncertain neighbour has no toward speed (R37). -/
theorem State.stoppingDistance_towardEast :
    stoppingDistance (s.geometry d) (s.towardEast d) =
      if (s.crane d).slotState = .active ∧ (s.crane d).lastPosition ≠ none then
        stoppingDistance (s.geometry d) (if 0 < (s.crane d).lastVelocity then (s.crane d).lastVelocity.toNat else 0)
      else 0 := by
  simp only [State.towardEast, ← s.uncertain_eq_false, ← eastSpeed_eq]
  cases s.uncertain d <;> simp

end Inputs

/-! ### The bounds (R38, R39) -/

section Bounds

variable {s : State} {c d b : Slot}

/-- No fitted slot of higher number: the eastmost crane. -/
theorem State.east_of_eastmost (h : ∀ d, c < d → s.fitted d = false) : s.east c = none := by
  rw [s.east_eq_none]
  rintro d ⟨after, fitted, -⟩
  simp [h d after] at fitted

/-- No fitted slot of lower number: the westmost crane. -/
theorem State.west_of_westmost (h : ∀ b, b < c → s.fitted b = false) : s.west c = none := by
  rw [s.west_eq_none]
  rintro b ⟨before, fitted, -⟩
  simp [h b before] at fitted

theorem State.eastBound_of_neighbour (h : s.nearestEast c d) :
    s.eastBound c = s.westFace d - s.config.clearance - stoppingDistance (s.geometry d) (s.towardWest d) -
      (s.geometry c).rail.eastExtent := by
  rw [State.eastBound, (s.east_eq_some c d).2 h]

theorem State.eastBound_of_eastmost (h : ∀ d, c < d → s.fitted d = false) :
    s.eastBound c = (s.config.eastLimit : Int) - (s.geometry c).rail.eastExtent := by
  rw [State.eastBound, State.east_of_eastmost h]

theorem State.westBound_of_neighbour (h : s.nearestWest c b) :
    s.westBound c = s.eastFace b + s.config.clearance + stoppingDistance (s.geometry b) (s.towardEast b) +
      (s.geometry c).rail.westExtent := by
  rw [State.westBound, (s.west_eq_some c b).2 h]

theorem State.westBound_of_westmost (h : ∀ b, b < c → s.fitted b = false) :
    s.westBound c = (s.config.westLimit : Int) + (s.geometry c).rail.westExtent := by
  rw [State.westBound, State.west_of_westmost h]

end Bounds

/-- Settles O13: with a neighbour its face, widened and moved by its goal, sets the bound; with none the limit does. -/
theorem boundsOfAWindow : Obligations.BoundsOfAWindow := by
  refine ⟨fun s c => ⟨fun p => State.positionUsed_of_reported, State.positionUsed_of_unreported⟩,
    fun s c => ⟨fun d near => ?east, State.eastBound_of_eastmost⟩,
    fun s c => ⟨fun b near => ?west, State.westBound_of_westmost⟩⟩
  case east =>
    rw [State.eastBound_of_neighbour near, s.stoppingDistance_towardWest, State.westFace, s.widening_eq]
    cases goal : (s.spanOf d).goal with
    | none => rw [State.rangeWest_of_noGoal goal]
    | some g => rw [State.rangeWest_of_goal goal]
  case west =>
    rw [State.westBound_of_neighbour near, s.stoppingDistance_towardEast, State.eastFace, s.widening_eq]
    cases goal : (s.spanOf b).goal with
    | none => rw [State.rangeEast_of_noGoal goal]
    | some g => rw [State.rangeEast_of_goal goal]

/-! ### The permit conditions (R47) -/

theorem lineOf_eq_some {n : Nat} {k : LineNo} : lineOf n = some k ↔ k.val = n := by
  unfold lineOf
  split
  · rw [Option.some_inj, Fin.ext_iff, eq_comm]
  · exact iff_of_false (by simp) (by have := k.isLt; omega)

theorem lineEastOf_eq_some {c : Slot} {k : LineNo} : lineEastOf c = some k ↔ k.val = c.val := lineOf_eq_some

theorem lineWestOf_eq_some {c : Slot} {k : LineNo} : lineWestOf c = some k ↔ k.val + 1 = c.val := by
  unfold lineWestOf
  split
  · exact iff_of_false (by simp) (by omega)
  · rw [lineOf_eq_some]
    omega

section Permits

variable (s : State) (c : Slot)

theorem State.mayTravel_iff : s.mayTravel c = true ↔
    s.mode = .operating ∧ s.halted = false ∧ (s.crane c).slotState = .active ∧ s.flight c = none := by
  simp [State.mayTravel, and_assoc]

theorem State.trippedEast_eq_false :
    s.trippedEast c = false ↔ ∀ k : LineNo, k.val = c.val → s.tripped k = false := by
  simp only [← lineEastOf_eq_some, State.trippedEast]
  cases lineEastOf c <;> simp

theorem State.trippedWest_eq_false :
    s.trippedWest c = false ↔ ∀ k : LineNo, k.val + 1 = c.val → s.tripped k = false := by
  simp only [← lineWestOf_eq_some, State.trippedWest]
  cases lineWestOf c <;> simp

theorem State.eastNear_iff : s.eastNear c = true ↔ ∃ d, s.nearestEast c d ∧ s.watch c = some .near := by
  simp only [← s.east_eq_some, State.eastNear]
  cases s.east c <;> simp

theorem State.westNear_iff : s.westNear c = true ↔ ∃ b, s.nearestWest c b ∧ s.watch b = some .near := by
  simp only [← s.west_eq_some, State.westNear]
  cases s.west c <;> simp

theorem State.eastCondition_iff (w : Window) : s.eastCondition c w = true ↔
    s.mayTravel c = true ∧ s.trippedEast c = false ∧
    (s.positionUsed c : Int) + max s.config.startMargin
      (stoppingDistance (s.geometry c) (eastSpeed (s.crane c).lastVelocity)) ≤ w.hi ∧
    (s.eastNear c = true → eastSpeed (s.crane c).lastVelocity ≤ s.config.creepSpeed) := by
  simp only [State.eastCondition, Bool.and_eq_true, Bool.or_eq_true, Bool.not_eq_true', decide_eq_true_eq, and_assoc]
  cases s.eastNear c <;> simp

theorem State.westCondition_iff (w : Window) : s.westCondition c w = true ↔
    s.mayTravel c = true ∧ s.trippedWest c = false ∧
    w.lo ≤ (s.positionUsed c : Int) - max s.config.startMargin
      (stoppingDistance (s.geometry c) (westSpeed (s.crane c).lastVelocity)) ∧
    (s.westNear c = true → westSpeed (s.crane c).lastVelocity ≤ s.config.creepSpeed) := by
  simp only [State.westCondition, Bool.and_eq_true, Bool.or_eq_true, Bool.not_eq_true', decide_eq_true_eq, and_assoc]
  cases s.westNear c <;> simp

end Permits

theorem toNat_max_zero (u : Int) : (max 0 u).toNat = eastSpeed u := by
  unfold eastSpeed
  omega

theorem toNat_max_zero_neg (u : Int) : (max 0 (-u)).toNat = westSpeed u := toNat_max_zero (-u)

theorem max_zero_le_iff (u : Int) (n : Nat) : max 0 u ≤ n ↔ eastSpeed u ≤ n := by
  unfold eastSpeed
  omega

theorem max_zero_neg_le_iff (u : Int) (n : Nat) : max 0 (-u) ≤ n ↔ westSpeed u ≤ n := max_zero_le_iff (-u) n

/-! ### The drive of the permit lines (R49) -/

theorem lineDrive_openDrain (asserted : Bool) :
    (asserted = true → lineDrive .openDrain asserted = .conducting) ∧
      (asserted = false → lineDrive .openDrain asserted = .leftOpen) := by
  cases asserted <;> simp [lineDrive]

theorem lineDrive_pushPull (asserted : Bool) :
    (asserted = true → lineDrive .pushPull asserted = .drivenHigh) ∧
      (asserted = false → lineDrive .pushPull asserted = .drivenLow) := by
  cases asserted <;> simp [lineDrive]

/-! ### A re-evaluation settles the cranes named (R41) -/

/-- States that agree on the inputs and the watch states evaluate a crane alike. -/
theorem SameInputs.evaluated {s t : State} (h : SameInputs s t) (hw : t.watches = s.watches) (c : Slot) :
    t.evaluated c = s.evaluated c := by
  obtain ⟨east, west⟩ := h.conditions hw c (s.bounds c)
  simp only [State.evaluated, State.emptyMarkNow, State.crane, h.bounds, h.goal, east, west, h.mode, h.cranes]

section Reevaluation

variable (s : State) (cs : List Slot)

theorem State.reevaluate_goal (c : Slot) : ((s.reevaluate cs).spanOf c).goal = (s.spanOf c).goal := by
  rw [s.reevaluate_spanOf]
  split <;> rfl

/-- A re-evaluation changes none of the inputs of windows and permits. -/
theorem State.reevaluate_sameInputs :
    SameInputs ({ s with watches := s.watchesAfter cs } : State) (s.reevaluate cs) where
  config := s.reevaluate_config cs
  mode := s.reevaluate_mode cs
  halted := s.reevaluate_halted cs
  overrides := s.reevaluate_overrides cs
  cranes := s.reevaluate_cranes cs
  flight c := congrArg Option.isSome (s.reevaluate_flight cs c)
  goal := s.reevaluate_goal cs
  sensors := ⟨s.reevaluate_sensorLevels cs, s.reevaluate_latches cs⟩

/-- A fitted crane re-evaluated holds what the state after the re-evaluation gives for it. -/
theorem State.reevaluate_spanOf_named {c : Slot} (named : c ∈ cs) (fitted : s.fitted c = true) :
    (s.reevaluate cs).spanOf c = (s.reevaluate cs).evaluated c := by
  rw [(s.reevaluate_sameInputs cs).evaluated (s.reevaluate_watches cs), s.reevaluate_spanOf, if_pos ⟨named, fitted⟩]

end Reevaluation

/-- Settles O14: the conditions clause by clause, and the drive by what a re-evaluation stores. -/
theorem permitConditions : Obligations.PermitConditions := by
  refine ⟨fun s c lo hi p u reported speed => ⟨?east, ?west⟩, fun s cs c named fitted => ?driven, fun s c => ?drive⟩
  case east =>
    subst speed
    simp only [s.eastCondition_iff, s.mayTravel_iff, s.trippedEast_eq_false, s.eastNear_iff,
      State.positionUsed_of_reported reported, toNat_max_zero, max_zero_le_iff, forall_exists_index, and_imp, and_assoc]
  case west =>
    subst speed
    simp only [s.westCondition_iff, s.mayTravel_iff, s.trippedWest_eq_false, s.westNear_iff,
      State.positionUsed_of_reported reported, toNat_max_zero_neg, max_zero_neg_le_iff, forall_exists_index, and_imp,
      and_assoc]
  case driven =>
    intro t window
    have settled : t.spanOf c = t.evaluated c := s.reevaluate_spanOf_named cs named fitted
    rw [settled]
    exact ⟨rfl, rfl, rfl⟩
  case drive =>
    unfold State.eastLine State.westLine
    cases s.config.permitDrive with
    | openDrain => exact ⟨lineDrive_openDrain _, lineDrive_openDrain _⟩
    | pushPull => exact ⟨lineDrive_pushPull _, lineDrive_pushPull _⟩

/-! ### A crane's request (R3, R179) -/

section CraneRequests

variable {α : Type} {s u : State} {c : Slot} {t : RequestType} {x : α} {event : α → State → State × List Telegram}

/-- A request on a fitted slot whose event answers one telegram and leaves the crane's port alone. -/
theorem State.craneRequest_answered {a : Telegram} (fitted : s.fitted c = true)
    (h : event x (s.heard (.crane c)) = (u, [a])) (same : u.port (.crane c) = (s.heard (.crane c)).port (.crane c)) :
    s.craneRequest c t (.fields x) event = .next (u.send (.crane c) a) := by
  rw [s.craneRequest_fitted c t x event fitted, (s.heard (.crane c)).answer_one _ _ _ _ h same]

/-- A request on a fitted slot whose event refuses: the refusal is all that is sent (R3). -/
theorem State.craneRequest_refused {r : Reason} {i : RefuseInfo} (fitted : s.fitted c = true)
    (h : event x (s.heard (.crane c)) = refuse t r i (s.heard (.crane c))) :
    s.craneRequest c t (.fields x) event = .next ((s.heard (.crane c)).send (.crane c) (.refuse t r i)) :=
  State.craneRequest_answered fitted h rfl

end CraneRequests

/-! ### TRAVEL (R43, R44) -/

theorem exec_travel (s : State) (c : Slot) (b : Body Nat) :
    exec (.travel c b) s = s.craneRequest c .travel b (travelEvent c) := rfl

@[simp] theorem State.heard_travelRefusal (s : State) (p : PortId) (c : Slot) :
    (s.heard p).travelRefusal c = s.travelRefusal c := by
  simp [State.travelRefusal]

@[simp] theorem State.heard_grantedGoal (s : State) (p : PortId) (c : Slot) (target : Nat) :
    (s.heard p).grantedGoal c target = s.grantedGoal c target := by
  simp [State.grantedGoal]

section Travel

variable {s : State} {c : Slot} {target : Nat}

/-- In a window that is not empty and does not begin below the rail the goal is the target held into it (R44). -/
theorem State.grantedGoal_eq (lo : 0 ≤ (s.window c).lo) :
    (s.grantedGoal c target : Int) = max (s.window c).lo (min (s.window c).hi target) := by
  rw [State.grantedGoal, hold, Int.toNat_of_nonneg (Int.le_trans lo (Int.le_max_left _ _))]

theorem exec_travel_refused {r : Reason} (fitted : s.fitted c = true) (h : s.travelRefusal c = some r) :
    exec (.travel c (.fields target)) s =
      .next ((s.heard (.crane c)).send (.crane c) (.refuse .travel r .none)) := by
  rw [exec_travel]
  exact State.craneRequest_refused fitted (by simp [travelEvent, h])

theorem exec_travel_granted {t : State} (fitted : s.fitted c = true) (h : s.travelRefusal c = none)
    (ht : t = (s.heard (.crane c)).grantGoal c (s.grantedGoal c target)) :
    exec (.travel c (.fields target)) s =
      .next (t.send (.crane c) (.travelGrant (s.grantedGoal c target) (heldPosition (t.window c).lo)
        (heldPosition (t.window c).hi) (decide (s.grantedGoal c target ≠ target)) (t.window c).held)) := by
  subst ht
  rw [exec_travel]
  exact State.craneRequest_answered fitted (by simp [travelEvent, h]) (by simp [State.grantGoal])

end Travel

/-! ### TRAVEL_CANCEL (R45) -/

theorem exec_travelCancel (s : State) (c : Slot) (b : Body Unit) :
    exec (.travelCancel c b) s = s.craneRequest c .travelCancel b (travelCancelEvent c) := rfl

section Cancel

variable {s : State} {c : Slot}

theorem SlotState.isJoining_iff {x : SlotState} : x.isJoining = true ↔ ∃ j, x = .joining j := by
  cases x <;> simp [SlotState.isJoining]

/-- A crane that is STALE or ACTIVE has its goal cleared and is shown its window. -/
theorem travelCancelEvent_taken (h : (s.crane c).slotState = .stale ∨ (s.crane c).slotState = .active) :
    travelCancelEvent c () s = (s.cancelGoal c, [(s.cancelGoal c).windowReply c false]) := by
  rcases h with h | h <;> simp [travelCancelEvent, h]

theorem travelCancelEvent_refused (h : (s.crane c).slotState = .down ∨ (s.crane c).slotState.isJoining = true) :
    travelCancelEvent c () s = refuse .travelCancel .notActive .none s := by
  rw [SlotState.isJoining_iff] at h
  rcases h with h | ⟨j, h⟩ <;> simp [travelCancelEvent, h]

@[simp] theorem State.cancelGoal_port (p : PortId) : (s.cancelGoal c).port p = s.port p := by
  unfold State.cancelGoal
  split <;> simp [State.clearGoal]

theorem State.heard_cancelGoal (p : PortId) : (s.heard p).cancelGoal c =
    if (s.spanOf c).goal = none then s.heard p
    else ((s.heard p).setSpan c { s.spanOf c with goal := none }).reevaluate (s.concern c) := by
  cases h : (s.spanOf c).goal <;> simp [State.cancelGoal, State.clearGoal, h]

end Cancel

/-- Settles O23: a TRAVEL is refused with the first reason that applies and granted when none does; a TRAVEL_CANCEL turns on
the slot state alone. -/
theorem travelGoalsAreGrantedAndCancelled : Obligations.TravelGoalsAreGrantedAndCancelled := by
  refine ⟨fun s c target => ⟨⟨?unfitted, ?notOperating, ?halted, ?notActive, ?lifting, ?empty⟩, ?granted⟩,
    fun s c fitted => ⟨fun taken => ?cancelled, fun away => ?refused⟩⟩
  case unfitted =>
    rw [exec_travel]
    exact s.craneRequest_unfitted c .travel target _
  case notOperating =>
    intro fitted mode
    exact exec_travel_refused fitted (by simp [State.travelRefusal, mode])
  case halted =>
    intro fitted mode halted
    exact exec_travel_refused fitted (by simp [State.travelRefusal, mode, halted])
  case notActive =>
    intro fitted mode running inactive
    exact exec_travel_refused fitted (by simp [State.travelRefusal, mode, running, inactive])
  case lifting =>
    intro f fitted mode running active flight
    exact exec_travel_refused fitted (by simp [State.travelRefusal, mode, running, active, flight])
  case empty =>
    intro fitted mode running active idle empty
    exact exec_travel_refused fitted
      (by simp [State.travelRefusal, mode, running, active, idle, Window.isEmpty, empty])
  case granted =>
    intro fitted mode running active idle lo ordered
    have passes : s.travelRefusal c = none := by
      simp [State.travelRefusal, mode, running, active, idle, Window.isEmpty, ordered]
    exact ⟨s.grantedGoal c target, State.grantedGoal_eq lo, exec_travel_granted fitted passes (by simp [State.grantGoal])⟩
  case cancelled =>
    rw [exec_travelCancel, ← State.heard_cancelGoal]
    exact State.craneRequest_answered fitted (travelCancelEvent_taken (by simpa using taken)) (by simp)
  case refused =>
    rw [exec_travelCancel]
    exact State.craneRequest_refused fitted (travelCancelEvent_refused (by simpa using away))

end Sys2Proof.Machine

/-! PROOFS. The base station's telegrams (R82 to R90): what a request on the gang port answers, the shifts of a gang, and the
refusals of ENTER, UNITS, CHECK and EXIT. -/

namespace Sys2Proof.Machine

/-! ### The id of a gang telegram (R82) -/

section GangIds

variable {t : RequestType} {event : GangId → State → State × List Telegram} {s : State}

theorem gangOf_eq_none {id : Nat} (h : 8 ≤ id) : gangOf id = none := dif_neg (Nat.not_lt.mpr h)

@[simp] theorem gangOf_val (g : GangId) : gangOf g.val = some g := dif_pos g.isLt

@[simp] theorem gangRequest_val (g : GangId) : gangRequest t g.val event s = event g s := by
  rw [gangRequest, gangOf_val]

theorem gangRequest_badId {id : Nat} (h : 8 ≤ id) : gangRequest t id event s = refuse t .badValue .none s := by
  rw [gangRequest, gangOf_eq_none h]

end GangIds

/-! ### A base station's request (R3, R82) -/

section GangRequests

variable {α : Type} {s u : State} {t : RequestType} {x : α} {event : α → State → State × List Telegram}

/-- A request whose event answers one telegram and leaves the base station's port alone. -/
theorem State.gangPort_answered {a : Telegram} (h : event x (s.heard .gang) = (u, [a]))
    (same : u.port .gang = (s.heard .gang).port .gang) :
    s.request .gang t (.fields x) event = .next (u.send .gang a) := by
  rw [s.request_heard t x event (.inl (by simp)), (s.heard .gang).answer_one _ _ _ _ h same]

/-- A request whose event refuses: the refusal is all that is sent (R3). -/
theorem State.gangPort_refused {r : Reason} {i : RefuseInfo}
    (h : event x (s.heard .gang) = refuse t r i (s.heard .gang)) :
    s.request .gang t (.fields x) event = .next ((s.heard .gang).send .gang (.refuse t r i)) :=
  State.gangPort_answered h rfl

/-- A request that the gang's state does not allow: the refusal shows the gang as it was before the request (R82). -/
theorem State.gangPort_gangState {g : GangId} (h : event x (s.heard .gang) = refuseGang t g (s.heard .gang)) :
    s.request .gang t (.fields x) event =
      .next ((s.heard .gang).send .gang (.refuse t .gangState (.gang (s.gang g).shown))) := by
  rw [← s.heard_gang .gang g]
  exact State.gangPort_refused h

/-- A gang telegram with an id outside 0..7 (R82). -/
theorem State.gangPort_badId {id : Nat} {gangEvent : GangId → State → State × List Telegram}
    (h : event x = gangRequest t id gangEvent) (out : 8 ≤ id) :
    s.request .gang t (.fields x) event = .next ((s.heard .gang).send .gang (.refuse t .badValue .none)) :=
  State.gangPort_refused (by rw [h, gangRequest_badId out])

end GangRequests

/-! ### Shift (R83, R84) -/

theorem heldHeadcount_eq (n : Nat) : heldHeadcount n = if n = 0 then 1 else if 12 < n then 12 else n := by
  unfold heldHeadcount
  split
  · omega
  · split <;> omega

theorem heldHeadcount_ne_iff (n : Nat) : heldHeadcount n ≠ n ↔ n = 0 ∨ 12 < n := by
  unfold heldHeadcount
  omega

section Shift

variable {s : State} {g : GangId} {n : Nat}

theorem signOnEvent_taken (h : s.gang g = .off) :
    signOnEvent { gang := g.val, headcount := n } s =
      (s.setGang g (.ashore (if n = 0 then 1 else if 12 < n then 12 else n)),
        [.gangAck (.ok g (decide (n = 0 ∨ 12 < n)) false false)]) := by
  simp only [signOnEvent, gangRequest_val, h, heldHeadcount_ne_iff]
  rw [heldHeadcount_eq]

theorem signOnEvent_refused (h : s.gang g ≠ .off) :
    signOnEvent { gang := g.val, headcount := n } s = refuseGang .signOn g s := by
  cases hg : s.gang g with
  | off => exact absurd hg h
  | ashore _ | waiting _ _ _ | aboard _ _ _ _ _ => simp [signOnEvent, hg]

theorem signOffEvent_taken (h : s.gang g = .ashore n) :
    signOffEvent g.val s = (s.setGang g .off, [.gangAck (.ok g false false false)]) := by
  simp [signOffEvent, gangOk, h]

theorem signOffEvent_refused (h : ∀ n, s.gang g ≠ .ashore n) :
    signOffEvent g.val s = refuseGang .signOff g s := by
  cases hg : s.gang g with
  | ashore n => exact absurd hg (h n)
  | off | waiting _ _ _ | aboard _ _ _ _ _ => simp [signOffEvent, hg]

end Shift

/-- Settles O41: the gang's state decides each of the two telegrams, and its id comes before that. -/
theorem shiftsStartAndEnd : Obligations.ShiftsStartAndEnd := by
  refine fun s => ⟨fun g n off => ?signedOn, fun g n onShift => ?signOnRefused, fun g n ashore => ?signedOff,
    fun g away => ?signOffRefused, fun id n out => ⟨?signOnId, ?signOffId⟩⟩
  case signedOn => exact State.gangPort_answered (t := .signOn) (signOnEvent_taken (by simpa using off)) (by simp)
  case signOnRefused => exact State.gangPort_gangState (signOnEvent_refused (by simpa using onShift))
  case signedOff => exact State.gangPort_answered (t := .signOff) (signOffEvent_taken (by simpa using ashore)) (by simp)
  case signOffRefused => exact State.gangPort_gangState (signOffEvent_refused (by simpa using away))
  case signOnId => exact State.gangPort_badId (event := signOnEvent) rfl out
  case signOffId => exact State.gangPort_badId (event := signOffEvent) rfl out

/-! ### ENTER refused, in the order of R85 -/

theorem taskOf_eq_none {n : Nat} (h1 : n ≠ 1) (h2 : n ≠ 2) : taskOf n = none := by
  match n with
  | 0 | _ + 3 => rfl
  | 1 | 2 => contradiction

theorem exists_taskOf_eq_some {n : Nat} (h : n = 1 ∨ n = 2) : ∃ t, taskOf n = some t := by
  obtain rfl | rfl := h
  · exact ⟨_, rfl⟩
  · exact ⟨_, rfl⟩

section Enter

variable {s : State} {g : GangId} {i task n : Nat}

theorem enterEvent_notOperating (h : s.mode ≠ .operating) :
    enterEvent { gang := g.val, section_ := i, task := task } s = refuse .enter .notOperating .none s := by
  simp [enterEvent, enterGang, h]

theorem enterEvent_gangState (mode : s.mode = .operating) (h : ∀ n, s.gang g ≠ .ashore n) :
    enterEvent { gang := g.val, section_ := i, task := task } s = refuseGang .enter g s := by
  cases hg : s.gang g with
  | ashore n => exact absurd hg (h n)
  | off | waiting _ _ _ | aboard _ _ _ _ _ => simp [enterEvent, enterGang, mode, hg]

theorem enterEvent_badValue (mode : s.mode = .operating) (ashore : s.gang g = .ashore n) (h1 : task ≠ 1)
    (h2 : task ≠ 2) :
    enterEvent { gang := g.val, section_ := i, task := task } s = refuse .enter .badValue .none s := by
  simp [enterEvent, enterGang, mode, ashore, taskOf_eq_none h1 h2]

theorem enterEvent_noVessel (mode : s.mode = .operating) (ashore : s.gang g = .ashore n)
    (good : task = 1 ∨ task = 2) (h : s.vessel = none) :
    enterEvent { gang := g.val, section_ := i, task := task } s = refuse .enter .noVessel .none s := by
  obtain ⟨t, ht⟩ := exists_taskOf_eq_some good
  simp [enterEvent, enterGang, mode, ashore, ht, h]

theorem enterEvent_sectionRange (mode : s.mode = .operating) (ashore : s.gang g = .ashore n)
    (good : task = 1 ∨ task = 2) (h : s.vessel ≠ none) (out : i = 0 ∨ s.sectionCount < i) :
    enterEvent { gang := g.val, section_ := i, task := task } s = refuse .enter .sectionRange .none s := by
  obtain ⟨t, ht⟩ := exists_taskOf_eq_some good
  simp [enterEvent, enterGang, mode, ashore, ht, h, out]

end Enter

/-! ### UNITS, CHECK and EXIT of a gang in another state (R88 to R90) -/

section Aboard

variable {s : State} {g : GangId}

theorem unitsEvent_gangState {n : Nat} (h : ∀ i, ¬ (s.gang g).aboardAt i) :
    unitsEvent { gang := g.val, units := n } s = refuseGang .units g s := by
  cases hg : s.gang g with
  | aboard head i task last overdue => exact absurd ⟨head, task, last, overdue, hg⟩ (h i)
  | off | ashore _ | waiting _ _ _ => simp [unitsEvent, unitsOf, hg]

theorem checkEvent_gangState (h : ∀ i, ¬ (s.gang g).aboardAt i) : checkEvent g.val s = refuseGang .check g s := by
  cases hg : s.gang g with
  | aboard head i task last overdue => exact absurd ⟨head, task, last, overdue, hg⟩ (h i)
  | off | ashore _ | waiting _ _ _ => simp [checkEvent, checkGang, hg]

theorem exitEvent_gangState (h : ∀ i, ¬ (s.gang g).aboardAt i) (hw : ∀ i, ¬ (s.gang g).waitingAt i) :
    exitEvent g.val s = refuseGang .exit g s := by
  cases hg : s.gang g with
  | aboard head i task last overdue => exact absurd ⟨head, task, last, overdue, hg⟩ (h i)
  | waiting head i task => exact absurd ⟨head, task, hg⟩ (hw i)
  | off | ashore _ => simp [exitEvent, exitGang, hg]

end Aboard

/-- Settles O43: what a refusal shows is a case split on the gang; each check of an ENTER is read with those before it passed,
and the other three turn on the gang's state alone. -/
theorem gangTelegramsAreRefused : Obligations.GangTelegramsAreRefused := by
  refine ⟨fun s g => ?shown, fun s i task => ⟨fun id out => ?enterId, fun g => ⟨fun mode => ?notOperating,
      fun mode away => ?enterState, fun n mode ashore => ⟨fun h1 h2 => ?badTask, fun good berth => ?noVessel,
        fun good berth out => ?sectionRange⟩⟩⟩,
    fun s n => ⟨fun g notAboard => ⟨?units, ?check, fun notWaiting => ?exit⟩,
      fun id out => ⟨?unitsId, ?checkId, ?exitId⟩⟩⟩
  case shown => cases s.gang g <;> rfl
  case enterId => exact State.gangPort_badId (event := enterEvent) rfl out
  case notOperating => exact State.gangPort_refused (enterEvent_notOperating (by simpa using mode))
  case enterState =>
    exact State.gangPort_gangState (enterEvent_gangState (by simpa using mode) (by simpa using away))
  case badTask =>
    exact State.gangPort_refused
      (enterEvent_badValue (by simpa using mode) (by simpa using ashore) h1 h2)
  case noVessel =>
    exact State.gangPort_refused
      (enterEvent_noVessel (by simpa using mode) (by simpa using ashore) good (by simpa using berth))
  case sectionRange =>
    exact State.gangPort_refused
      (enterEvent_sectionRange (by simpa using mode) (by simpa using ashore) good (by simpa using berth)
        (by simpa using out))
  case units => exact State.gangPort_gangState (unitsEvent_gangState (by simpa using notAboard))
  case check => exact State.gangPort_gangState (checkEvent_gangState (by simpa using notAboard))
  case exit =>
    exact State.gangPort_gangState (exitEvent_gangState (by simpa using notAboard) (by simpa using notWaiting))
  case unitsId => exact State.gangPort_badId (event := unitsEvent) rfl out
  case checkId => exact State.gangPort_badId (event := checkEvent) rfl out
  case exitId => exact State.gangPort_badId (event := exitEvent) rfl out

end Sys2Proof.Machine

/-! PROOFS. A TAKE up to the choice of its group (R118 to R122): the TAKE that finds a lift, the refusals made in their order,
and the six checks of a candidate group. -/

namespace Sys2Proof.Machine

/-! ### What a TAKE checks does not depend on the ports -/

@[simp] theorem State.heard_takeRefusal (s : State) (p : PortId) (c : Slot) :
    (s.heard p).takeRefusal c = s.takeRefusal c := by
  simp [State.takeRefusal]

@[simp] theorem State.heard_groupRefusal (s : State) (p : PortId) (c : Slot) (g : Group) :
    (s.heard p).groupRefusal c g = s.groupRefusal c g := by
  cases p <;> rfl

@[simp] theorem State.heard_candidates (s : State) (p : PortId) (c : Slot) :
    (s.heard p).candidates c = s.candidates c := by
  simp [State.candidates]

@[simp] theorem State.heard_readyGroup (s : State) (p : PortId) (c : Slot) :
    (s.heard p).readyGroup c = s.readyGroup c := by
  simp [State.readyGroup]

@[simp] theorem State.heard_headRefusal (s : State) (p : PortId) (c : Slot) :
    (s.heard p).headRefusal c = s.headRefusal c := by
  simp [State.headRefusal]

/-! ### The sections of a footprint and those near it (R63, R73, R74) -/

section Footprints

variable {s : State} {i j : Nat} {r : Section} {f : Footprint} {test : Section → Bool} {bad : Section → Prop}

theorem State.mem_sectionNumbers (h : s.section? j = some r) : j ∈ s.sectionNumbers := by
  cases j with
  | zero => simp [State.section?] at h
  | succ n =>
    obtain ⟨inside, -⟩ := List.getElem?_eq_some_iff.mp h
    exact List.mem_map.mpr ⟨n, List.mem_range.mpr inside, rfl⟩

theorem State.anyInRadius_iff (h : ∀ r, test r = true ↔ bad r) : s.anyInRadius i test = true ↔
    ∃ j r, s.section? j = some r ∧ distance i j ≤ s.config.exclusionRadius ∧ bad r := by
  simp only [State.anyInRadius, State.inRadius, List.any_eq_true, Bool.and_eq_true, decide_eq_true_eq,
    Option.any_eq_true, h]
  constructor
  · rintro ⟨j, -, near, r, found, hr⟩
    exact ⟨j, r, found, near, hr⟩
  · rintro ⟨j, r, found, near, hr⟩
    exact ⟨j, State.mem_sectionNumbers found, near, r, found, hr⟩

theorem State.anyNear_iff (h : ∀ r, test r = true ↔ bad r) : s.anyNear f test = true ↔
    ∃ i j r, i ∈ f.sections ∧ s.section? j = some r ∧ distance i j ≤ s.config.exclusionRadius ∧ bad r := by
  simp [State.anyNear, State.anyInRadius_iff h]

theorem State.anyOf_iff (h : ∀ r, test r = true ↔ bad r) : s.anyOf f test = true ↔
    ∃ i r, i ∈ f.sections ∧ s.section? i = some r ∧ bad r := by
  simp [State.anyOf, Option.any_eq_true, h]

theorem State.anyOf_claimed : (s.anyOf f fun r => r.claim.isSome) = true ↔
    ∃ i r, i ∈ f.sections ∧ s.section? i = some r ∧ r.claim ≠ none :=
  State.anyOf_iff fun _ => Option.isSome_iff_ne_none

theorem State.anyNear_aboard : (s.anyNear f fun r => r.gang.isSome) = true ↔
    ∃ i j r, i ∈ f.sections ∧ s.section? j = some r ∧ distance i j ≤ s.config.exclusionRadius ∧ r.gang ≠ none :=
  State.anyNear_iff fun _ => Option.isSome_iff_ne_none

theorem State.anyNear_waiting : (s.anyNear f fun r => !r.waiting.isEmpty) = true ↔
    ∃ i j r, i ∈ f.sections ∧ s.section? j = some r ∧ distance i j ≤ s.config.exclusionRadius ∧ r.waiting ≠ [] :=
  State.anyNear_iff fun _ => by simp

end Footprints

/-! ### What a section must meet (Table 7.3) -/

/-- A check with the checks behind it gives no reason when it passes and they give none. -/
theorem ite_some_eq_none {α : Type} {p : Prop} [Decidable p] {x : α} {o : Option α} :
    (if p then some x else o) = none ↔ ¬ p ∧ o = none := by
  by_cases h : p <;> simp [h]

/-- The requirements of Table 7.3 on a section, for a kind and level. -/
def Section.Meets (job : Job) (r : Section) : Prop :=
  match job with
  | .discharge .deck => r.unlash = 0 ∧ r.hatch = .fitted
  | .load .deck => r.hatch = .fitted
  | .discharge .hold | .load .hold => r.hatch = .lifted
  | .hatchOff => r.hatch = .fitted ∧ r.unlash = 0 ∧ r.tally = 0
  | .hatchOn => r.hatch = .lifted

section Requirements

variable {s : State} {job : Job} {f : Footprint} {i : Nat} {r : Section} {x : Reason}

theorem Hatch.ne_fitted {h : Hatch} : h ≠ .fitted ↔ h = .lifted := by cases h <;> simp

theorem Hatch.ne_lifted {h : Hatch} : h ≠ .lifted ↔ h = .fitted := by cases h <;> simp

theorem sectionRequirement_eq_none : sectionRequirement job r = none ↔ r.Meets job := by
  rcases job with (_ | _) | (_ | _) | _ | _ <;>
    simp only [sectionRequirement, Section.Meets, ite_some_eq_none, ne_eq, Classical.not_not, and_true]

theorem State.requirement_eq_none : s.requirement job f = none ↔
    ∀ i r, i ∈ f.sections → s.section? i = some r → r.Meets job := by
  simp only [State.requirement, List.findSome?_eq_none_iff, Option.bind_eq_none_iff, sectionRequirement_eq_none]
  exact ⟨fun h i r hi => h i hi r, fun h i hi r => h i r hi⟩

/-- The sections are read ascending: the first that lacks something gives the reason. -/
theorem State.requirement_first {before behind : List Nat} (split : f.sections = before ++ i :: behind)
    (met : ∀ j q, j ∈ before → s.section? j = some q → sectionRequirement job q = none)
    (found : s.section? i = some r) (lacks : sectionRequirement job r = some x) : s.requirement job f = some x := by
  have passed : before.findSome? (fun j => (s.section? j).bind (sectionRequirement job)) = none := by
    simpa using fun j hj q => met j q hj
  simp [State.requirement, split, List.findSome?_append, passed, found, lacks]

end Requirements

/-! ### The six checks of a candidate group (R121) -/

theorem Group.standing_eq_incomplete {g : Group} : g.standing = .incomplete ↔ ∃ m, g = .incomplete m := by
  cases g <;> simp [Group.standing]

theorem Group.standing_ne_incomplete {g : Group} : g.standing ≠ .incomplete ↔ ∀ m, g ≠ .incomplete m := by
  simp [Group.standing_eq_incomplete]

section Checks

variable {s : State} {c : Slot} {g : Group}

theorem State.groupRefusal_eq_none : s.groupRefusal c g = none ↔
    g.standing ≠ .incomplete ∧
    ¬ s.config.bayTolerance < distance (s.positionUsed c) (s.workPosition g.footprint) ∧
    ¬ (s.anyOf g.footprint fun r => r.claim.isSome) = true ∧
    ¬ (s.anyNear g.footprint fun r => r.gang.isSome) = true ∧
    ¬ (s.anyNear g.footprint fun r => !r.waiting.isEmpty) = true ∧
    s.requirement g.firstMove.job g.footprint = none := by
  simp only [State.groupRefusal, ite_some_eq_none, Option.map_eq_none_iff, ne_eq]

theorem State.groupRefusal_incomplete (h : g.standing = .incomplete) :
    s.groupRefusal c g = some (.groupIncomplete, .none) := by
  simp [State.groupRefusal, h]

variable (complete : g.standing ≠ .incomplete)
include complete

theorem State.groupRefusal_notAtBay
    (far : s.config.bayTolerance < distance (s.positionUsed c) (s.workPosition g.footprint)) :
    s.groupRefusal c g = some (.notAtBay, .requiredPosition (s.workPosition g.footprint)) := by
  simp [State.groupRefusal, complete, far]

variable (atBay : ¬ s.config.bayTolerance < distance (s.positionUsed c) (s.workPosition g.footprint))
include atBay

theorem State.groupRefusal_sectionClaimed (h : (s.anyOf g.footprint fun r => r.claim.isSome) = true) :
    s.groupRefusal c g = some (.sectionClaimed, .none) := by
  simp [State.groupRefusal, complete, atBay, h]

variable (free : ¬ (s.anyOf g.footprint fun r => r.claim.isSome) = true)
include free

theorem State.groupRefusal_gangAboard (h : (s.anyNear g.footprint fun r => r.gang.isSome) = true) :
    s.groupRefusal c g = some (.gangAboard, .none) := by
  simp [State.groupRefusal, complete, atBay, free, h]

variable (unmanned : ¬ (s.anyNear g.footprint fun r => r.gang.isSome) = true)
include unmanned

theorem State.groupRefusal_gangWaiting (h : (s.anyNear g.footprint fun r => !r.waiting.isEmpty) = true) :
    s.groupRefusal c g = some (.gangWaiting, .none) := by
  rw [State.groupRefusal, if_neg complete, if_neg atBay, if_neg free, if_neg unmanned, if_pos h]

theorem State.groupRefusal_requirement (quiet : ¬ (s.anyNear g.footprint fun r => !r.waiting.isEmpty) = true) :
    s.groupRefusal c g = (s.requirement g.firstMove.job g.footprint).map fun x => (x, .none) := by
  rw [State.groupRefusal, if_neg complete, if_neg atBay, if_neg free, if_neg unmanned, if_neg quiet]

end Checks

/-- Settles O26: the checks are passed when none of the six fails, and each failing check is read with those before it
passed. -/
theorem groupIsCheckedBeforeATake : Obligations.GroupIsCheckedBeforeATake := by
  refine ⟨fun s c g => ?passes, fun s c g => ⟨fun m hm => ?incomplete, fun complete => ?order⟩⟩
  case passes =>
    rw [State.groupRefusal_eq_none, Group.standing_ne_incomplete, State.anyOf_claimed, State.anyNear_aboard,
      State.anyNear_waiting, State.requirement_eq_none, Nat.not_lt]
    constructor
    · rintro ⟨complete, atBay, free, unmanned, quiet, met⟩
      refine ⟨complete, atBay, fun i r hi found => ⟨?_, met i r hi found⟩, fun i j r hi found near => ⟨?_, ?_⟩⟩
      · exact Classical.not_not.mp fun h => free ⟨i, r, hi, found, h⟩
      · exact Classical.not_not.mp fun h => unmanned ⟨i, j, r, hi, found, near, h⟩
      · exact Classical.not_not.mp fun h => quiet ⟨i, j, r, hi, found, near, h⟩
    · rintro ⟨complete, atBay, covered, around⟩
      refine ⟨complete, atBay, ?_, ?_, ?_, fun i r hi found => (covered i r hi found).2⟩
      · rintro ⟨i, r, hi, found, h⟩
        exact h (covered i r hi found).1
      · rintro ⟨i, j, r, hi, found, near, h⟩
        exact h (around i j r hi found near).1
      · rintro ⟨i, j, r, hi, found, near, h⟩
        exact h (around i j r hi found near).2
  case incomplete =>
    exact State.groupRefusal_incomplete (Group.standing_eq_incomplete.mpr ⟨m, hm⟩)
  case order =>
    rw [← Group.standing_ne_incomplete] at complete
    rw [← State.anyOf_claimed]
    refine ⟨State.groupRefusal_notAtBay complete, State.groupRefusal_sectionClaimed complete,
      fun atBay free aboard => State.groupRefusal_gangAboard complete atBay free (State.anyNear_aboard.mpr aboard),
      fun atBay free unmanned waiting => State.groupRefusal_gangWaiting complete atBay free
        (mt State.anyNear_aboard.mp unmanned) (State.anyNear_waiting.mpr waiting),
      fun atBay free unmanned quiet => ?_⟩
    intro reason before i behind r x split met found lacks
    have reads : reason = sectionRequirement g.firstMove.job := by
      funext q
      simp only [reason]
      rcases g.firstMove.job with (_ | _) | (_ | _) | _ | _ <;>
        simp only [sectionRequirement, Hatch.ne_fitted, Hatch.ne_lifted]
    rw [reads] at met lacks
    rw [State.groupRefusal_requirement complete atBay free (mt State.anyNear_aboard.mp unmanned)
        (mt State.anyNear_waiting.mp quiet), State.requirement_first split met found lacks, Option.map_some]

/-! ### The candidates and the head group (R118, R122) -/

section Candidates

variable {s : State} {c : Slot}

/-- Both take modes look at the first groups of the queue (R118). -/
theorem State.candidates_eq_take : ∃ n, s.candidates c = (groupsOf (s.queue c)).take n := by
  unfold State.candidates
  cases entry s.config.takeModes c with
  | inOrder => exact ⟨1, rfl⟩
  | firstReady => exact ⟨s.config.lookahead, rfl⟩

theorem State.readyGroup_eq_none : s.readyGroup c = none ↔ ∀ g ∈ s.candidates c, s.groupRefusal c g ≠ none := by
  simp [State.readyGroup]

/-- Where there is a candidate the first of them is the head group. -/
theorem State.candidates_head? {g head : Group} (candidate : g ∈ s.candidates c)
    (first : (groupsOf (s.queue c)).head? = some head) : (s.candidates c).head? = some head := by
  obtain ⟨n, taken⟩ := State.candidates_eq_take (s := s) (c := c)
  cases n with
  | zero => simp [taken] at candidate
  | succ n => rw [taken, List.head?_take, if_neg n.succ_ne_zero, first]

theorem State.headRefusal_eq {head : Group} {reason : Reason} {info : RefuseInfo}
    (first : (s.candidates c).head? = some head) (h : s.groupRefusal c head = some (reason, info)) :
    s.headRefusal c = (reason, info) := by
  obtain ⟨rest, split⟩ := List.head?_eq_some_iff.mp first
  simp [State.headRefusal, split, h]

end Candidates

/-! ### TAKE up to the choice of a group (R119, R120, R122) -/

theorem exec_take (s : State) (c : Slot) (b : Body Unit) : exec (.take c b) s = s.craneRequest c .take b (takeEvent c) :=
  rfl

section Take

variable {s : State} {c : Slot}

theorem exec_take_lift {f : Flight} (fitted : s.fitted c = true) (lift : s.flight c = some f)
    (active : (s.crane c).slotState = .active) : exec (.take c (.fields ())) s =
      .next ((s.heard (.crane c)).send (.crane c) ((s.heard (.crane c)).moveReply c f)) := by
  rw [exec_take]
  exact State.craneRequest_answered fitted (by simp [takeEvent, lift, active]) rfl

theorem exec_take_liftAway {f : Flight} (fitted : s.fitted c = true) (lift : s.flight c = some f)
    (away : (s.crane c).slotState ≠ .active) : exec (.take c (.fields ())) s =
      .next ((s.heard (.crane c)).send (.crane c) (.refuse .take .notActive .none)) := by
  rw [exec_take]
  exact State.craneRequest_refused fitted (by simp [takeEvent, lift, away])

theorem exec_take_refused {r : Reason} (fitted : s.fitted c = true) (idle : s.flight c = none)
    (h : s.takeRefusal c = some r) : exec (.take c (.fields ())) s =
      .next ((s.heard (.crane c)).send (.crane c) (.refuse .take r .none)) := by
  rw [exec_take]
  exact State.craneRequest_refused fitted (by simp [takeEvent, idle, h])

/-- No candidate passes: the refusal is the head group's (R122). -/
theorem exec_take_noneReady (fitted : s.fitted c = true) (idle : s.flight c = none) (passes : s.takeRefusal c = none)
    (unready : s.readyGroup c = none) : exec (.take c (.fields ())) s =
      .next ((s.heard (.crane c)).send (.crane c) (.refuse .take (s.headRefusal c).1 (s.headRefusal c).2)) := by
  rw [exec_take]
  exact State.craneRequest_refused fitted (by simp [takeEvent, idle, passes, unready])

end Take

/-- Settles O24: a lift in flight is answered by the slot state alone; without one each check of R120 is read with those
before it passed, and past them all the head group's refusal is what is sent. -/
theorem takeIsAnsweredInOrder : Obligations.TakeIsAnsweredInOrder := by
  intro s c fitted
  refine ⟨fun f => exec_take_lift fitted, fun f => exec_take_liftAway fitted, fun idle => ⟨fun mode => ?notOperating,
    fun mode halted => ?halted, fun mode running away => ?notActive, fun mode running active =>
      ⟨fun empty => ?noMove, fun moves full => ?logBacklog,
        fun moves room refusals head reason info first refused candidate => ?noneReady⟩⟩⟩
  case notOperating => exact exec_take_refused fitted idle (by simp [State.takeRefusal, mode])
  case halted => exact exec_take_refused fitted idle (by simp [State.takeRefusal, mode, halted])
  case notActive => exact exec_take_refused fitted idle (by simp [State.takeRefusal, mode, running, away])
  case noMove => exact exec_take_refused fitted idle (by simp [State.takeRefusal, mode, running, active, empty])
  case logBacklog =>
    exact exec_take_refused fitted idle (by simp [State.takeRefusal, mode, running, active, moves, full])
  case noneReady =>
    have passes : s.takeRefusal c = none := by simp [State.takeRefusal, mode, running, active, moves, room]
    have shown : s.headRefusal c = (reason, info) :=
      State.headRefusal_eq (State.candidates_head? candidate first) refused
    simpa [shown] using exec_take_noneReady fitted idle passes (State.readyGroup_eq_none.mpr refusals)

end Sys2Proof.Machine

/-! PROOFS. RECALL (R152): the group in flight that holds a tag, what the event does case by case, and from that the
command. -/

namespace Sys2Proof.Machine

section Recall

variable {s : State} {tag : Nat} {c : Slot} {f : Flight}

/-! ### Where a tag stands -/

theorem State.inPool_iff : s.inPool tag = true ↔ ∃ d m, m ∈ s.queue d ∧ m.tag = tag := by
  simp [State.inPool, State.holderOf]

@[simp] theorem State.heard_flightOf (s : State) (p : PortId) (tag : Nat) :
    (s.heard p).flightOf tag = s.flightOf tag := by
  simp [State.flightOf]

theorem State.flightOf_mem (h : s.flightOf tag = some (c, f)) : s.flight c = some f ∧ tag ∈ f.tags := by
  obtain ⟨d, -, found⟩ := List.exists_of_findSome?_eq_some h
  split at found
  · next g lift =>
    split at found
    · next holds =>
      obtain ⟨rfl, rfl⟩ : d = c ∧ g = f := by simpa using found
      exact ⟨lift, by simpa using holds⟩
    · cases found
  · cases found

theorem State.flightOf_eq_none : s.flightOf tag = none ↔ ∀ d g, s.flight d = some g → tag ∉ g.tags := by
  rw [State.flightOf, List.findSome?_eq_none_iff]
  refine ⟨fun unfound d g lift => ?_, fun absent d _ => ?_⟩
  · simpa [lift] using unfound d (mem_all8 d)
  · cases lift : s.flight d with
    | none => rfl
    | some g => simp [absent d g lift]

/-- Only one group in flight holds the tag, so the search finds that group. -/
theorem State.flightOf_eq_some (lift : s.flight c = some f) (holds : tag ∈ f.tags)
    (only : ∀ d g, s.flight d = some g → tag ∈ g.tags → d = c) : s.flightOf tag = some (c, f) := by
  cases found : s.flightOf tag with
  | none => exact absurd holds (State.flightOf_eq_none.mp found c f lift)
  | some r =>
    obtain ⟨d, g⟩ := r
    obtain ⟨lifting, held⟩ := State.flightOf_mem found
    obtain rfl := only d g lifting held
    simpa [lift, eq_comm] using lifting

/-! ### The truck asked for afresh -/

theorem State.makeCall_flight_same (s : State) (c : Slot) (f : Flight) (m : MoveRecord) (l : Lane) :
    (s.makeCall c f m l).flight c = some { f with truck := .called, lane := some l } := by
  simp [State.makeCall]

/-- An attempt leaves the crane its group, whether or not a truck is called. -/
theorem State.attempt_flight_first (lift : s.flight c = some f) :
    ∃ g, (s.attempt c).flight c = some g ∧ g.first = f.first := by
  rcases s.attempt_cases c with same | ⟨g, m, rest, l, lifting, -, -, -, -, called⟩
  · exact ⟨f, by rw [same, lift], rfl⟩
  · obtain rfl : f = g := Option.some.inj (lift.symm.trans lifting)
    exact ⟨{ f with truck := .called, lane := some l }, by rw [called, State.makeCall_flight_same], rfl⟩

/-- A restarted truck request leaves the crane its group. -/
theorem State.restartTruck_flight_first (s : State) (c : Slot) (f : Flight) :
    ∃ g, (s.restartTruck c f).flight c = some g ∧ g.first = f.first :=
  State.attempt_flight_first (f := { f with truck := .pending, truckId := none, recallCount := 0 })
    (s.flight_setFlight_same c _)

@[simp] theorem State.restartTruck_port_plan (s : State) (c : Slot) (f : Flight) :
    (s.restartTruck c f).port .plan = s.port .plan := by
  simp [State.restartTruck]

/-! ### The event -/

theorem recallEvent_unknownTag (out : ∀ d m, m ∈ s.queue d → m.tag ≠ tag) :
    recallEvent tag s = refuse .recall .unknownTag .none s := by
  have absent : ¬ s.inPool tag = true := by
    rw [State.inPool_iff]
    exact fun ⟨d, m, mem, eq⟩ => out d m mem eq
  simp [recallEvent, absent]

theorem recallEvent_notInFlight (pooled : ∃ d m, m ∈ s.queue d ∧ m.tag = tag) (idle : s.flightOf tag = none) :
    recallEvent tag s = refuse .recall .notAllowed .none s := by
  simp [recallEvent, State.inPool_iff.mpr pooled, idle]

theorem recallEvent_notFailed (pooled : ∃ d m, m ∈ s.queue d ∧ m.tag = tag) (held : s.flightOf tag = some (c, f))
    (truck : f.truck ≠ .failed) : recallEvent tag s = refuse .recall .notAllowed .none s := by
  simp [recallEvent, State.inPool_iff.mpr pooled, held, truck]

theorem recallEvent_failed {g : Flight} (pooled : ∃ d m, m ∈ s.queue d ∧ m.tag = tag)
    (held : s.flightOf tag = some (c, f)) (truck : f.truck = .failed)
    (after : (s.restartTruck c f).flight c = some g) (first : g.first = f.first) :
    recallEvent tag s = planAck (.recall f.first g.truck g.lane) (s.restartTruck c f) := by
  simp [recallEvent, State.inPool_iff.mpr pooled, held, truck, after, first]

end Recall

/-- Settles O40: the tag is looked for in the pool, then among the groups in flight, and only a FAILED truck is asked for
afresh. -/
theorem recallStartsTheTruckAfresh : Obligations.RecallStartsTheTruckAfresh := by
  intro s tag
  refine ⟨fun c f lift holds only pooled => ?inFlight, fun pooled idle => ?notInFlight, fun out => ?unknownTag⟩
  case inFlight =>
    have held : (s.heard .plan).flightOf tag = some (c, f) := by
      simpa using State.flightOf_eq_some lift holds only
    refine ⟨fun failed => ?restarted, fun truck => ?notFailed⟩
    case restarted =>
      obtain ⟨g, after, first⟩ := (s.heard .plan).restartTruck_flight_first c f
      exact ⟨g, after, State.planRequest_acked (t := .recall)
        (recallEvent_failed (by simpa using pooled) held failed after first) (by simp)⟩
    case notFailed =>
      exact State.planRequest_refused (recallEvent_notFailed (by simpa using pooled) held truck)
  case notInFlight =>
    have unheld : (s.heard .plan).flightOf tag = none := by simpa using State.flightOf_eq_none.mpr idle
    exact State.planRequest_refused (recallEvent_notInFlight (by simpa using pooled) unheld)
  case unknownTag =>
    exact State.planRequest_refused (recallEvent_unknownTag (by simpa using out))

end Sys2Proof.Machine

/-! PROOFS. The Completion Log (R160 to R163): what LOG_READ and LOG_FREE do at their event, and from that the commands. -/

namespace Sys2Proof.Machine

section Log

variable {s : State} {n : Nat}

/-! ### A planning system's read -/

/-- A request whose event only reads: the one reply is all that is sent (R179). -/
theorem State.planRequest_read {α : Type} {t : RequestType} {x : α} {event : α → State → State × List Telegram}
    {reply : Telegram} (h : event x (s.heard .plan) = (s.heard .plan, [reply])) :
    s.request .plan t (.fields x) event = .next ((s.heard .plan).send .plan reply) := by
  rw [s.request_heard t x event (.inl (by simp))]
  exact congrArg _ ((s.heard .plan).answer_one _ _ _ _ h rfl)

/-! ### LOG_READ (R161) -/

theorem logReadEvent_held (low : 1 ≤ n) (high : n ≤ 8) :
    logReadEvent n s = (s, [.readReply (.log s.log.length (s.log.take n)) none]) :=
  if_neg (by omega)

theorem logReadEvent_badValue (out : n = 0 ∨ 8 < n) : logReadEvent n s = refuse .logRead .badValue .none s :=
  if_pos out

/-! ### LOG_FREE (R162) -/

/-- Removing `n` records from a shorter log leaves it empty, so the number need not be cut to the length first. -/
theorem State.freeLog_min (s : State) (n : Nat) : s.freeLog (min n s.log.length) =
    { s with log := s.log.drop n, backlog := if s.log.length - n < 192 then false else s.backlog } := by
  have rest : s.log.drop (min n s.log.length) = s.log.drop n := by simp [List.drop_eq_drop_iff]
  rw [State.freeLog, rest, List.length_drop]

theorem logFreeEvent_eq (n : Nat) (s : State) : logFreeEvent n s =
    planAck (.logFree (min n s.log.length) (s.log.length - n) (decide (s.log.length < n)))
      { s with log := s.log.drop n, backlog := if s.log.length - n < 192 then false else s.backlog } := by
  have after : s.log.length - min n s.log.length = s.log.length - n := by omega
  simp only [logFreeEvent, State.freeLog_min, after]

end Log

/-- Settles O32: an append is one of its two cases, a read answers or refuses by its k, and a freeing cuts the number of
records to those there are. -/
theorem logIsAppendedReadAndFreed : Obligations.LogIsAppendedReadAndFreed := by
  refine ⟨fun s c tag rs => ⟨fun below reached => ?raised, fun apart => ?onlyAppended⟩,
    fun s n => ⟨fun low high => ?read, fun out => ?refused, ?freed⟩⟩
  case raised =>
    rcases s.appendLog_cases c tag rs with ⟨-, -, raised⟩ | ⟨apart, -⟩
    · exact raised
    · omega
  case onlyAppended =>
    rcases s.appendLog_cases c tag rs with ⟨below, reached, -⟩ | ⟨-, appended⟩
    · omega
    · exact appended
  case read =>
    have reply := State.planRequest_read (s := s) (t := .logRead) (logReadEvent_held low high)
    rwa [State.heard_log] at reply
  case refused => exact State.planRequest_refused (logReadEvent_badValue out)
  case freed =>
    have ack := State.planRequest_acked (s := s) (t := .logFree) (logFreeEvent_eq n (s.heard .plan)) rfl
    rwa [State.heard_log, State.heard_backlog] at ack

end Sys2Proof.Machine

/-! PROOFS. OVERRIDE_GEOMETRY (R173): the ranges of Table 2.2 as bounds, what setting an override does, what the event
answers in each of its cases, and from that the command. -/

namespace Sys2Proof.Machine

/-! ### A geometry in range (Table 2.2) -/

theorem page1InRange_iff {p : Page1} : page1InRange p = true ↔
    (300 ≤ p.westExtent ∧ p.westExtent ≤ 2500) ∧ (300 ≤ p.eastExtent ∧ p.eastExtent ≤ 2500) ∧
    (10 ≤ p.deceleration ∧ p.deceleration ≤ 200) ∧ p.reactionTime ≤ 2000 ∧ 20 ≤ p.maxSpeed ∧ p.maxSpeed ≤ 255 := by
  simp [page1InRange, within_iff, and_assoc]

theorem page2InRange_iff {p : Page2} : page2InRange p = true ↔
    (50 ≤ p.hoistSpeed ∧ p.hoistSpeed ≤ 300) ∧ (100 ≤ p.trolleySpeed ∧ p.trolleySpeed ≤ 600) ∧
    10 ≤ p.lockTime ∧ p.lockTime ≤ 200 := by
  simp [page2InRange, within_iff, and_assoc]

theorem page3InRange_iff {p : Page3} : page3InRange p = true ↔ ∀ l, entry p.laneOffsets l ≤ 6000 := by
  simp [page3InRange, within_iff]

theorem geometryInRange_iff {g : Geometry} : geometryInRange g = true ↔
    page1InRange g.rail = true ∧ page2InRange g.hoist = true ∧ page3InRange g.lanes = true := by
  simp [geometryInRange, and_assoc]

/-! ### The slot a request carries -/

@[simp] theorem slotOf_val (c : Slot) : slotOf c.val = some c := dif_pos c.isLt

theorem slotOf_eq_none {n : Nat} (h : 8 ≤ n) : slotOf n = none := dif_neg (Nat.not_lt.mpr h)

section Override

variable {s : State} {c : Slot} {g : Geometry} {ask : OverrideAsk}

/-! ### The source of the geometry in force (R18) -/

theorem State.geometrySource_of_override (h : s.override c = some g) : s.geometrySource c = some .plan := by
  simp [State.geometrySource, h]

theorem State.geometrySource_of_noOverride (h : s.override c = none) :
    s.geometrySource c = if (s.crane c).declared = none then none else some .crane := by
  cases hd : (s.crane c).declared <;> simp [State.geometrySource, h, hd]

/-! ### Setting and removing an override (R18, R173) -/

/-- Which cranes a change of a crane concerns does not turn on the overrides. -/
theorem State.setOverride_eq (s : State) (c : Slot) (o : Option Geometry) : s.setOverride c o =
    (({ s with overrides := put s.overrides c o } : State).reevaluate (s.concern c)).attempt c := rfl

@[simp] theorem State.setOverride_override (o : Option Geometry) : (s.setOverride c o).override c = o := by
  rw [State.setOverride_eq, State.attempt_override, State.reevaluate_override]
  exact entry_put_same s.overrides c o

@[simp] theorem State.setOverride_crane (o : Option Geometry) (d : Slot) :
    (s.setOverride c o).crane d = s.crane d := by
  rw [State.setOverride_eq, State.attempt_crane, State.reevaluate_crane]
  rfl

@[simp] theorem State.setOverride_port_plan (o : Option Geometry) :
    (s.setOverride c o).port .plan = s.port .plan := by
  rw [State.setOverride_eq, State.attempt_port_plan, State.reevaluate_port]
  rfl

/-- A valid telegram leaves what an override acts on as it was. -/
theorem State.heard_setOverride (p : PortId) (o : Option Geometry) : (s.heard p).setOverride c o =
    (({ s.heard p with overrides := put s.overrides c o } : State).reevaluate (s.concern c)).attempt c := by
  rw [State.setOverride_eq, State.heard_overrides, State.heard_concern]

/-- An override set is the geometry in force at once. -/
theorem State.setOverride_geometry : (s.setOverride c (some g)).geometry c = g :=
  State.geometry_of_override (State.setOverride_override _)

/-! ### What the event answers (R173) -/

theorem overrideEvent_badSlot {n : Nat} (out : 8 ≤ n) :
    overrideEvent { slot := n, ask := ask } s = refuse .overrideGeometry .badValue .none s := by
  simp [overrideEvent, slotOf_eq_none out]

theorem overrideEvent_notInSetup (mode : s.mode = .operating) :
    overrideEvent { slot := c.val, ask := ask } s = refuse .overrideGeometry .notInSetup .none s := by
  simp [overrideEvent, mode]

theorem overrideEvent_badValue (mode : s.mode = .setup)
    (bad : ask = .incomplete ∨ ∃ g, ask = .fields g ∧ geometryInRange g = false) :
    overrideEvent { slot := c.val, ask := ask } s = refuse .overrideGeometry .badValue .none s := by
  obtain rfl | ⟨g, rfl, off⟩ := bad
  · simp [overrideEvent, mode]
  · simp [overrideEvent, mode, off]

theorem overrideEvent_set (mode : s.mode = .setup) (good : geometryInRange g = true) :
    overrideEvent { slot := c.val, ask := .fields g } s =
      planAck (.geometry c ((s.setOverride c (some g)).geometry c) (some .plan)) (s.setOverride c (some g)) := by
  have source : (s.setOverride c (some g)).geometrySource c = some .plan :=
    State.geometrySource_of_override (State.setOverride_override _)
  simp [overrideEvent, mode, good, geometryAck, source]

theorem overrideEvent_removed (mode : s.mode = .setup) (held : s.override c ≠ none) :
    overrideEvent { slot := c.val, ask := .remove } s =
      planAck (.geometry c ((s.setOverride c none).geometry c)
        (if (s.crane c).declared = none then none else some .crane)) (s.setOverride c none) := by
  have source := State.geometrySource_of_noOverride (s := s.setOverride c none) (c := c) (State.setOverride_override _)
  rw [State.setOverride_crane] at source
  simp [overrideEvent, mode, Option.isSome_iff_ne_none, held, geometryAck, source]

theorem overrideEvent_removeNothing (mode : s.mode = .setup) (unset : s.override c = none) :
    overrideEvent { slot := c.val, ask := .remove } s =
      planAck (.geometry c (s.geometry c) (if (s.crane c).declared = none then none else some .crane)) s := by
  simp [overrideEvent, mode, unset, geometryAck, State.geometrySource_of_noOverride unset]

end Override

/-- Settles O54: the ranges page by page, and each clause the answer of the event in one of its cases. -/
theorem overrideIsStored : Obligations.OverrideIsStored := by
  refine ⟨fun g => ?ranges, fun s c ask =>
    ⟨?set, ?removed, ?removeNothing, fun mode => ?notInSetup, fun mode bad => ?badValue, fun n out => ?badSlot⟩⟩
  case ranges =>
    rw [geometryInRange_iff, page1InRange_iff, page2InRange_iff, page3InRange_iff]
    simp only [and_assoc]
  case set =>
    rintro g mode rfl good
    have ack := State.planRequest_acked (t := .overrideGeometry)
      (overrideEvent_set (s := s.heard .plan) (c := c) (by simpa using mode) good) (by simp)
    have inForce := State.setOverride_geometry (s := s.heard .plan) (c := c) (g := g)
    rw [State.heard_setOverride] at ack inForce
    exact ⟨ack, inForce⟩
  case removed =>
    rintro mode rfl held
    have ack := State.planRequest_acked (t := .overrideGeometry)
      (overrideEvent_removed (s := s.heard .plan) (c := c) (by simpa using mode) (by simpa using held)) (by simp)
    rwa [State.heard_setOverride, State.heard_crane] at ack
  case removeNothing =>
    rintro mode rfl unset
    have ack := State.planRequest_acked (t := .overrideGeometry)
      (overrideEvent_removeNothing (s := s.heard .plan) (c := c) (by simpa using mode) (by simpa using unset)) rfl
    rwa [State.heard_crane] at ack
  case notInSetup => exact State.planRequest_refused (overrideEvent_notInSetup (by simpa using mode))
  case badValue => exact State.planRequest_refused (overrideEvent_badValue (by simpa using mode) bad)
  case badSlot => exact State.planRequest_refused (overrideEvent_badSlot out)

end Sys2Proof.Machine

/-! PROOFS. What a command can do, said once: the events of the part, block by block, with what each requires of the state
it finds, and the inversion of `exec`: the state after a command is reached from the state before it by such events. Each
invariant of a step is then a statement about events. -/

namespace Sys2Proof.Machine

/-! ### The parts of an event that end in an attempt of a truck request -/

/-- A join completed, up to the attempt of the crane's request (R23). -/
def State.joinDone (s : State) (c : Slot) (g : Geometry) : State :=
  (s.setCrane c { s.crane c with slotState := .stale, declared := some g, joinTimer := none }).reevaluate (s.concern c)

theorem State.completeJoin_eq (s : State) (c : Slot) (g : Geometry) :
    s.completeJoin c g = if (s.override c).isSome then s.joinDone c g else (s.joinDone c g).attempt c := rfl

/-- An override set or removed, up to the attempt of the crane's request (R173). -/
def State.overrideStored (s : State) (c : Slot) (o : Option Geometry) : State :=
  ({ s with overrides := put s.overrides c o } : State).reevaluate (s.concern c)

theorem State.setOverride_eq_attempt (s : State) (c : Slot) (o : Option Geometry) :
    s.setOverride c o = (s.overrideStored c o).attempt c := rfl

/-- A group taken, up to the attempt of its truck request (R123). -/
def State.groupTaken (s : State) (c : Slot) (g : Group) : State :=
  let s' := ((s.markRecords c (s.newFlight g).tags .assigned).claim c g.footprint).setFlight c (some (s.newFlight g))
  (s'.setCrane c { s'.crane c with driftMark := false }).reevaluate (s.concern c)

theorem State.takeGroup_eq (s : State) (c : Slot) (g : Group) : s.takeGroup c g = (s.groupTaken c g).attempt c := by
  simp [State.takeGroup, State.groupTaken, State.markRecords]

/-- A group's truck that is asked for again after its call has lapsed (R150). -/
def Flight.recalled (f : Flight) : Flight :=
  { f with truck := .pending, lane := none, truckId := none, recallCount := min 7 (f.recallCount + 1) }

/-- A group's truck that is asked for again without a lapse (R141). -/
def Flight.askedAgain (f : Flight) : Flight := { f with truck := .pending, lane := none, truckId := none }

/-- A failed truck started afresh (R152). -/
def Flight.restarted (f : Flight) : Flight := { f with truck := .pending, truckId := none, recallCount := 0 }

/-- A group whose truck stands at its stand (R147). -/
def Flight.arrived (f : Flight) (truck : Nat) : Flight := { f with truck := .present, truckId := some truck }

/-! ### The events -/

/-- What happens on the links, and to the Quay Clock. -/
inductive PortEvent : State → State → Prop where
  | heard (s : State) (p : PortId) : PortEvent s (s.heard p)
  | inserted (s : State) (p : PortId) (n : Nat) (ts : List Telegram) : PortEvent s (s.insertTelegrams p n ts)
  | sent (s : State) (p : PortId) (t : Telegram) : PortEvent s (s.send p t)
  | linkDown (s : State) (p : PortId) : PortEvent s (s.linkDown p)
  | receiver (s : State) (p : PortId) (r : Receiver) : PortEvent s (s.setReceiver p r)
  | telegramSent (s : State) (p : PortId) (up : (s.port p).linkUp = true) :
      PortEvent s (s.setPort p { s.port p with outbox := (s.port p).outbox.tail })
  | clock (s : State) : PortEvent s { s with clock := s.clock + 1#32 }

/-- What happens to cranes, goals, lines and overrides, each time with the re-evaluation that follows it. -/
inductive SpanEvent : State → State → Prop where
  | joinStarted {s : State} {c : Slot} (fitted : s.fitted c = true) : SpanEvent s (s.startJoin c)
  | pageOne {s : State} {c : Slot} {f : Page1} (fitted : s.fitted c = true)
      (awaited : (s.crane c).slotState = .joining .awaitPage1) (good : page1InRange f = true) :
      SpanEvent s (s.storePage c (.awaitPage2 f))
  | pageTwo {s : State} {c : Slot} {one : Page1} {f : Page2} (fitted : s.fitted c = true)
      (awaited : (s.crane c).slotState = .joining (.awaitPage2 one)) (good : page2InRange f = true) :
      SpanEvent s (s.storePage c (.awaitPage3 one f))
  | joinDone {s : State} {c : Slot} {one : Page1} {two : Page2} {three : Page3} (fitted : s.fitted c = true)
      (awaited : (s.crane c).slotState = .joining (.awaitPage3 one two)) (good : page3InRange three = true) :
      SpanEvent s (s.joinDone c { rail := one, hoist := two, lanes := three })
  | joinAbandoned (s : State) (c : Slot) : SpanEvent s (s.abandonJoin c)
  | positionTaken {s : State} {c : Slot} (r : PositionReport) (fitted : s.fitted c = true)
      (enrolled : (s.crane c).slotState = .stale ∨ (s.crane c).slotState = .active) : SpanEvent s (s.takePosition c r)
  | reportsStopped {s : State} {c : Slot} (timer : (s.crane c).reportTimer.isSome = true) :
      SpanEvent s (((s.setCrane c { s.crane c with slotState := .stale, reportTimer := none }).clearGoal c).reevaluate
        (s.concern c))
  | craneLost {s : State} {c : Slot} (fitted : s.fitted c = true) : SpanEvent s (s.craneLost c)
  | goalGranted {s : State} {c : Slot} (target : Nat) (fitted : s.fitted c = true) (free : s.travelRefusal c = none) :
      SpanEvent s (s.grantGoal c (s.grantedGoal c target))
  | goalCancelled (s : State) (c : Slot) : SpanEvent s (s.cancelGoal c)
  | overrideStored {s : State} {c : Slot} {o : Option Geometry} (mode : s.mode ≠ .operating)
      (good : ∀ g, o = some g → geometryInRange g = true) : SpanEvent s (s.overrideStored c o)
  | lineChanged {s t : State} {k : LineNo} {level : Level} (h : execSensorLineChange k level s = .next t) : SpanEvent s t
  | haltChanged (s : State) (level : Level) : SpanEvent s (({ s with haltLine := level } : State).followHalt)
  | acknowledged (s : State) (mask : BitVec 16) : SpanEvent s (s.acknowledge mask)

/-- What happens to the whole part. -/
inductive SetupEvent : State → State → Prop where
  | poweredOn (s : State) (h : Level) (lines : Vector Level 7) :
      SetupEvent s { State.poweredOn h lines with pending := s.pending }
  | setup {s : State} (idle : (s.anyFlight || s.anyGang) = false) : SetupEvent s s.enterSetup
  | operating {s : State} (mode : s.mode ≠ .operating) : SetupEvent s s.enterOperating
  | configured {s : State} {items : List ConfigItem} (good : configRefusal s.mode items = none) :
      SetupEvent s (s.applyConfig items)

/-- A group taken, and the ends of a group. -/
inductive GroupEvent : State → State → Prop where
  | taken {s : State} {c : Slot} {g : Group} (fitted : s.fitted c = true) (idle : s.flight c = none)
      (passes : s.takeRefusal c = none) (ready : s.readyGroup c = some g) : GroupEvent s (s.groupTaken c g)
  | landed {s : State} {c : Slot} {f : Flight} (lift : s.flight c = some f) (aloft : f.phase = .aloft) :
      GroupEvent s (s.landGroup c f).1
  | givenUp {s : State} {c : Slot} {f : Flight} (lift : s.flight c = some f) : GroupEvent s (s.giveUpGroup c f)
  | forced {s : State} {c : Slot} {f : Flight} (lift : s.flight c = some f) : GroupEvent s (s.forceGroup c f)

/-- What happens to the truck and the phase of a group in flight, and to the stands. -/
inductive TruckEvent : State → State → Prop where
  | locked {s : State} {c : Slot} {f : Flight} (lift : s.flight c = some f) (phase : f.phase = .assigned) :
      TruckEvent s (s.setFlight c (some { f with phase := .locked }))
  | lifted {s : State} {c : Slot} {f : Flight} (lift : s.flight c = some f) (phase : f.phase = .locked) :
      TruckEvent s (s.liftGroup c f)
  | attempted (s : State) (c : Slot) : TruckEvent s (s.attempt c)
  | opened (s : State) (mask : Mask) : TruckEvent s { s with laneMask := mask }
  | closed {s : State} {c : Slot} {l : Lane} (called : (s.stand c l).name = .called) :
      TruckEvent s (s.closeCall (c, l))
  | arrived {s : State} {c : Slot} {l : Lane} {k : Call} {due deadline : Time} {held : Bool} (truck : Nat)
      (called : s.stand c l = .called k due deadline held) : TruckEvent s (s.takeArrival c l k truck)
  | recalled {s : State} {c : Slot} {l : Lane} {f : Flight}
      (busy : (s.stand c l).name = .called ∨ (s.stand c l).name = .occupied) (lift : s.flight c = some f) :
      TruckEvent s ((s.setStand c l .free).setFlight c (some f.recalled))
  | failed {s : State} {c : Slot} {l : Lane} {f : Flight} {cause : LostCause} (n : Nat)
      (busy : (s.stand c l).name = .called ∨ (s.stand c l).name = .occupied) (lift : s.flight c = some f) :
      TruckEvent s ((s.setStand c l .free).failTruck c { f with recallCount := n } l cause)
  | unserved {s : State} {c : Slot} {l : Lane}
      (busy : (s.stand c l).name = .called ∨ (s.stand c l).name = .occupied) (idle : s.flight c = none) :
      TruckEvent s (s.setStand c l .free)
  | freed {s : State} {c : Slot} {l : Lane} (released : (s.stand c l).name = .released) :
      TruckEvent s (s.setStand c l .free)
  | restarted {s : State} {c : Slot} {f : Flight} (lift : s.flight c = some f) (failed : f.truck = .failed) :
      TruckEvent s (s.setFlight c (some f.restarted))

/-- What happens to gangs and their sections. -/
inductive GangEvent : State → State → Prop where
  | signedOn {s : State} {g : GangId} (n : Nat) (off : s.gang g = .off) : GangEvent s (s.setGang g (.ashore n))
  | signedOff {s : State} {g : GangId} {n : Nat} (ashore : s.gang g = .ashore n) : GangEvent s (s.setGang g .off)
  | boarded {s : State} {g : GangId} {n i : Nat} (task : Task) (mode : s.mode = .operating)
      (ashore : s.gang g = .ashore n) (atOnce : s.boardsAtOnce i = true) : GangEvent s (s.board g n i task)
  | joined {s : State} {g : GangId} {n i : Nat} (task : Task) (mode : s.mode = .operating)
      (ashore : s.gang g = .ashore n) (vessel : s.vessel ≠ none) (low : i ≠ 0) (high : i ≤ s.sectionCount) :
      GangEvent s (s.joinWaiting g n i task)
  | counted (s : State) (g : GangId) (i : Nat) (task : Task) (n : Nat) : GangEvent s (s.countUnits g i task n)
  | checked {s : State} {g : GangId} {n i : Nat} {task : Task} {last : Time} {overdue : Bool}
      (aboard : s.gang g = .aboard n i task last overdue) : GangEvent s (s.setGang g (.aboard n i task s.clock false))
  | left {s : State} {g : GangId} {n i : Nat} {task : Task} {last : Time} {overdue : Bool}
      (aboard : s.gang g = .aboard n i task last overdue) : GangEvent s (s.exitAboard g n i)
  | leftList {s : State} {g : GangId} {n i : Nat} {task : Task} (waiting : s.gang g = .waiting n i task) :
      GangEvent s (s.exitWaiting g n i)
  | supervised (s : State) (g : GangId) : GangEvent s (s.superviseGang g)

/-- What happens to the vessel and its sections. -/
inductive BerthEvent : State → State → Prop where
  | opened {s : State} {r : VesselRequest} {v : Vessel} (none : s.vessel = none) (good : vesselOf r = some v) :
      BerthEvent s { s with vessel := some v, sections := createdSections v }
  | cleared {s : State} (idle : s.BerthIdle) :
      BerthEvent s { s with vessel := none, sections := [], queues := Vector.replicate 8 [] }
  | sectionSet (s : State) (i : Nat) (q : SectionRequest) (h : Hatch) :
      BerthEvent s (s.changeSection i fun r => r.replaced q h)

/-- What happens to the queues outside the groups, to the read cursor and to the log as it is freed. -/
inductive StoreEvent : State → State → Prop where
  | appended {s : State} {c : Slot} {v : Vessel} {q : MoveRequest} {m : MoveRecord} (vessel : s.vessel = some v)
      (good : readMove v q = .ok m) (new : s.inPool m.tag = false) (room : s.roomRefusal c = none) :
      StoreEvent s (s.setQueue c (s.queue c ++ [m]))
  | inserted {s : State} {c : Slot} {i : Nat} {st : MoveState} {tag : Nat} {v : Vessel} {q : MoveRequest}
      {m : MoveRecord} (vessel : s.vessel = some v) (good : readMove v q = .ok m)
      (found : s.findTag tag = some (c, i, st)) (free : st ≠ .assigned) (new : s.inPool m.tag = false)
      (room : s.roomRefusal c = none) : StoreEvent s (s.setQueue c ((s.queue c).insertIdx i m))
  | deleted {s : State} {c : Slot} {i : Nat} {st : MoveState} {tag : Nat} (found : s.findTag tag = some (c, i, st))
      (free : st ≠ .assigned) : StoreEvent s (s.setQueue c ((s.queue c).eraseIdx i))
  | replaced {s : State} {c : Slot} {i : Nat} {st : MoveState} {tag : Nat} {v : Vessel} {q : MoveRequest}
      {m : MoveRecord} (vessel : s.vessel = some v) (good : readMove v q = .ok m)
      (found : s.findTag tag = some (c, i, st)) (free : st ≠ .assigned)
      (new : m.tag = tag ∨ s.inPool m.tag = false) : StoreEvent s (s.setQueue c ((s.queue c).set i m))
  | pointed (s : State) (x : Cursor) : StoreEvent s { s with cursor := x }
  | freed (s : State) (n : Nat) : StoreEvent s (s.freeLog n)

/-- One event of the part. -/
inductive Happens (s t : State) : Prop where
  | port (h : PortEvent s t)
  | span (h : SpanEvent s t)
  | setup (h : SetupEvent s t)
  | group (h : GroupEvent s t)
  | truck (h : TruckEvent s t)
  | gang (h : GangEvent s t)
  | berth (h : BerthEvent s t)
  | store (h : StoreEvent s t)

/-- Steps of a relation one after another: its reflexive transitive closure. -/
inductive Steps {α : Type} (r : α → α → Prop) (a : α) : α → Prop
  | refl : Steps r a a
  | tail {b c : α} (steps : Steps r a b) (step : r b c) : Steps r a c

theorem Steps.single {α : Type} {r : α → α → Prop} {a b : α} (h : r a b) : Steps r a b := .tail .refl h

theorem Steps.trans {α : Type} {r : α → α → Prop} {a b c : α} (h : Steps r a b) (k : Steps r b c) : Steps r a c := by
  induction k with
  | refl => exact h
  | tail _ step ih => exact .tail ih step

/-- Events one after another. -/
abbrev Reaches : State → State → Prop := Steps Happens

/-- What every event keeps, events one after another keep. -/
theorem Reaches.keeps {P : State → Prop} (keeps : ∀ s t, P s → Happens s t → P t) {s t : State} (h : Reaches s t)
    (hs : P s) : P t := by
  induction h with
  | refl => exact hs
  | tail _ happens ih => exact keeps _ _ ih happens

theorem Happens.reaches {s t : State} (h : Happens s t) : Reaches s t := .single h

end Sys2Proof.Machine

/-! PROOFS. What every step keeps of the span (chapter 3): the windows, marks, permit lines and watch states are what the
inputs give, the goals of neighbours stay apart, and an asserted permit is safe. -/

namespace Sys2Proof.Machine

/-! ### What each block of events leaves alone -/

theorem PortEvent.only {s t : State} (h : PortEvent s t) : t =
    { s with clock := t.clock, cranePorts := t.cranePorts, lanePort := t.lanePort, gangPort := t.gangPort,
             planPort := t.planPort } := by
  cases h with
  | heard p => rw [State.heard_only]
  | inserted p n ts => rw [State.insertTelegrams_only]
  | sent p t => rw [State.send_only]
  | linkDown p => rw [State.linkDown, State.setPort_only]
  | receiver p r => rw [State.setReceiver, State.setPort_only]
  | telegramSent p => rw [State.setPort_only]
  | clock => rfl

theorem State.abandonJoin_only (s : State) (c : Slot) : s.abandonJoin c =
    { s with cranes := (s.abandonJoin c).cranes, span := (s.abandonJoin c).span,
             watches := (s.abandonJoin c).watches, alerts := (s.abandonJoin c).alerts,
             attn := (s.abandonJoin c).attn } := by
  unfold State.abandonJoin
  split
  · rw [State.reevaluate_only]; rfl
  · rfl

theorem State.arriveAtGoal_only (s : State) (c : Slot) (n : Nat) : s.arriveAtGoal c n =
    { s with span := (s.arriveAtGoal c n).span } := by
  unfold State.arriveAtGoal
  repeat' split
  all_goals rfl

theorem State.checkDrift_only (s : State) (c : Slot) (n : Nat) : s.checkDrift c n =
    { s with cranes := (s.checkDrift c n).cranes, alerts := (s.checkDrift c n).alerts,
             attn := (s.checkDrift c n).attn } := by
  unfold State.checkDrift
  repeat' split
  · rw [State.raise_only]; rfl
  all_goals rfl

theorem State.takePosition_only (s : State) (c : Slot) (r : PositionReport) : s.takePosition c r =
    { s with cranes := (s.takePosition c r).cranes, span := (s.takePosition c r).span,
             watches := (s.takePosition c r).watches, alerts := (s.takePosition c r).alerts,
             attn := (s.takePosition c r).attn } := by
  unfold State.takePosition
  rw [State.reevaluate_only, State.checkDrift_only, State.arriveAtGoal_only]
  rfl

theorem State.lineTo_only (s : State) (k : LineNo) (level : Level) : s.lineTo k level =
    { s with sensorLevels := (s.lineTo k level).sensorLevels, latches := (s.lineTo k level).latches } := by
  unfold State.lineTo
  dsimp only
  split <;> rfl

theorem State.raiseTrips_only (s : State) (ks : List LineNo) : s.raiseTrips ks =
    { s with alerts := (s.raiseTrips ks).alerts, attn := (s.raiseTrips ks).attn } := by
  unfold State.raiseTrips
  dsimp only
  rw [State.raiseFor_only, State.raiseFor_only]

theorem State.followHalt_only (s : State) : s.followHalt =
    { s with halted := s.followHalt.halted, span := s.followHalt.span, watches := s.followHalt.watches,
             alerts := s.followHalt.alerts, attn := s.followHalt.attn } := by
  unfold State.followHalt
  dsimp only
  repeat' split
  · rfl
  · rw [State.raise_only, State.reevaluate_only]
  · rw [State.reevaluate_only]

theorem State.acknowledge_only (s : State) (mask : BitVec 16) : s.acknowledge mask =
    { s with latches := (s.acknowledge mask).latches, span := (s.acknowledge mask).span,
             watches := (s.acknowledge mask).watches, alerts := (s.acknowledge mask).alerts,
             attn := (s.acknowledge mask).attn } := by
  unfold State.acknowledge
  dsimp only
  split
  · rw [State.clearLatches, State.reevaluate_only]; rfl
  · rfl

theorem SpanEvent.only {s t : State} (h : SpanEvent s t) : t =
    { s with cranes := t.cranes, span := t.span, watches := t.watches, overrides := t.overrides,
             sensorLevels := t.sensorLevels, latches := t.latches, haltLine := t.haltLine, halted := t.halted,
             alerts := t.alerts, attn := t.attn } := by
  cases h with
  | joinStarted => rw [State.startJoin, State.reevaluate_only]; rfl
  | pageOne => rfl
  | pageTwo => rfl
  | joinDone => rw [State.joinDone, State.reevaluate_only]; rfl
  | joinAbandoned => rw [State.abandonJoin_only]
  | positionTaken => rw [State.takePosition_only]
  | reportsStopped => rw [State.reevaluate_only]; rfl
  | craneLost => rw [State.craneLost, State.reevaluate_only, State.raise_only]; rfl
  | goalGranted => rw [State.grantGoal, State.reevaluate_only]; rfl
  | goalCancelled =>
    unfold State.cancelGoal
    split
    · rw [State.reevaluate_only]; rfl
    · rfl
  | overrideStored => rw [State.overrideStored, State.reevaluate_only]
  | lineChanged run =>
    obtain rfl := Host.Outcome.next.inj run
    dsimp only
    repeat' split
    · rfl
    · rw [State.lineTo_only]
    · rw [State.raiseTrips_only, State.reevaluate_only, State.lineTo_only]
    · rw [State.reevaluate_only, State.lineTo_only]
  | haltChanged => rw [State.followHalt_only]
  | acknowledged => rw [State.acknowledge_only]

/-- Only what a taking or an ending group can change is changed. -/
def OnlyGroup (s t : State) : Prop := t =
  { s with queues := t.queues, sections := t.sections, gangs := t.gangs, flights := t.flights, cranes := t.cranes,
           span := t.span, watches := t.watches, stands := t.stands, log := t.log, backlog := t.backlog,
           alerts := t.alerts, attn := t.attn, lanePort := t.lanePort, gangPort := t.gangPort }

theorem OnlyGroup.trans {s t u : State} (h : OnlyGroup s t) (k : OnlyGroup t u) : OnlyGroup s u := by
  unfold OnlyGroup at *
  rw [k, h]

section OnlyGroup

variable (s : State)

theorem onlyGroup_setFlight_setCrane (c : Slot) (f : Option Flight) (r : CraneRecord) :
    OnlyGroup s ((s.setFlight c f).setCrane c r) := rfl

theorem onlyGroup_setQueue (c : Slot) (q : List MoveRecord) : OnlyGroup s (s.setQueue c q) := rfl

theorem onlyGroup_reevaluate (cs : List Slot) : OnlyGroup s (s.reevaluate cs) := by
  rw [OnlyGroup, State.reevaluate_only]

theorem onlyGroup_endFlight (c : Slot) : OnlyGroup s (s.endFlight c) :=
  .trans (onlyGroup_setFlight_setCrane s c none { s.crane c with driftMark := false }) (onlyGroup_reevaluate _ _)

theorem onlyGroup_releaseTruck (c : Slot) (f : Flight) : OnlyGroup s (s.releaseTruck c f) := by
  rw [OnlyGroup, State.releaseTruck_only]

theorem onlyGroup_releaseFootprint (f : Footprint) : OnlyGroup s (s.releaseFootprint f) := by
  rw [OnlyGroup, State.releaseFootprint_only]

theorem onlyGroup_appendLog (c : Slot) (n : Nat) (rs : List CompletionRecord) : OnlyGroup s (s.appendLog c n rs) := by
  rw [OnlyGroup, State.appendLog_only]

theorem onlyGroup_claim (c : Slot) (f : Footprint) : OnlyGroup s (s.claim c f) := by
  rw [OnlyGroup, State.claim_only]

theorem onlyGroup_landed (job : Job) (f : Footprint) (ms : List MoveRecord) : OnlyGroup s (s.landed job f ms).1 := by
  rw [OnlyGroup, State.landed_only]

end OnlyGroup

theorem GroupEvent.only {s t : State} (h : GroupEvent s t) : OnlyGroup s t := by
  cases h with
  | taken =>
    exact .trans (.trans (onlyGroup_setQueue ..) (.trans (onlyGroup_claim ..) (onlyGroup_setFlight_setCrane ..)))
      (onlyGroup_reevaluate ..)
  | @landed c f =>
    have released : OnlyGroup s (if f.job.isDischarge then
        (s.landed f.job f.footprint (s.flightRecords c f)).1.releaseTruck c f
        else (s.landed f.job f.footprint (s.flightRecords c f)).1) := by
      split
      · exact .trans (onlyGroup_landed ..) (onlyGroup_releaseTruck ..)
      · exact onlyGroup_landed ..
    exact .trans (.trans (.trans (released.trans (onlyGroup_releaseFootprint ..)) (onlyGroup_appendLog ..))
      (onlyGroup_setQueue ..)) (onlyGroup_endFlight ..)
  | givenUp =>
    exact .trans (.trans (.trans (onlyGroup_setQueue ..) (onlyGroup_releaseFootprint ..)) (onlyGroup_releaseTruck ..))
      (onlyGroup_endFlight ..)
  | forced =>
    exact .trans (.trans (.trans (.trans (onlyGroup_releaseTruck ..) (onlyGroup_releaseFootprint ..))
      (onlyGroup_appendLog ..)) (onlyGroup_setQueue ..)) (onlyGroup_endFlight ..)

theorem State.liftGroup_only (s : State) (c : Slot) (f : Flight) : s.liftGroup c f =
    { s with flights := (s.liftGroup c f).flights, stands := (s.liftGroup c f).stands,
             lanePort := (s.liftGroup c f).lanePort } := by
  unfold State.liftGroup
  dsimp only
  split
  · rw [State.releaseTruck_only]; rfl
  · rfl

theorem State.closeCall_only (s : State) (x : Slot × Lane) : s.closeCall x =
    { s with flights := (s.closeCall x).flights, stands := (s.closeCall x).stands,
             lanePort := (s.closeCall x).lanePort } := by
  unfold State.closeCall
  dsimp only
  rw [State.cancelStand_only]
  split <;> rfl

theorem State.takeArrival_only (s : State) (c : Slot) (l : Lane) (k : Call) (n : Nat) : s.takeArrival c l k n =
    { s with flights := (s.takeArrival c l k n).flights, stands := (s.takeArrival c l k n).stands,
             cranePorts := (s.takeArrival c l k n).cranePorts } := by
  unfold State.takeArrival
  dsimp only
  split
  · rw [State.send_crane_only]; rfl
  · rfl

theorem TruckEvent.only {s t : State} (h : TruckEvent s t) : t =
    { s with flights := t.flights, stands := t.stands, laneMask := t.laneMask, pointers := t.pointers,
             callCounter := t.callCounter, alerts := t.alerts, attn := t.attn, cranePorts := t.cranePorts,
             lanePort := t.lanePort } := by
  cases h with
  | locked => rfl
  | lifted => rw [State.liftGroup_only]
  | attempted => rw [State.attempt_only]
  | opened => rfl
  | closed => rw [State.closeCall_only]
  | arrived => rw [State.takeArrival_only]
  | recalled => rfl
  | failed => rw [State.failTruck, State.raise_only, State.send_crane_only]; rfl
  | unserved => rfl
  | freed => rfl
  | restarted => rfl

theorem State.becomeOverdue_only (s : State) (g : GangId) : s.becomeOverdue g =
    { s with gangs := (s.becomeOverdue g).gangs, alerts := (s.becomeOverdue g).alerts,
             attn := (s.becomeOverdue g).attn, gangPort := (s.becomeOverdue g).gangPort } := by
  unfold State.becomeOverdue
  split
  · rw [State.send_gang_only, State.raise_only]; rfl
  all_goals rfl

theorem State.superviseGang_only (s : State) (g : GangId) : s.superviseGang g =
    { s with gangs := (s.superviseGang g).gangs, alerts := (s.superviseGang g).alerts,
             attn := (s.superviseGang g).attn, gangPort := (s.superviseGang g).gangPort } := by
  unfold State.superviseGang
  split
  · rw [State.becomeOverdue_only]
  · rfl

theorem State.countUnits_only (s : State) (g : GangId) (i : Nat) (t : Task) (n : Nat) : s.countUnits g i t n =
    { s with sections := (s.countUnits g i t n).sections, alerts := (s.countUnits g i t n).alerts,
             attn := (s.countUnits g i t n).attn } := by
  unfold State.countUnits
  dsimp only
  split
  · rw [State.raise_only, State.changeSection_only]
  · rw [State.changeSection_only]

theorem GangEvent.only {s t : State} (h : GangEvent s t) : t =
    { s with gangs := t.gangs, sections := t.sections, alerts := t.alerts, attn := t.attn,
             gangPort := t.gangPort } := by
  cases h with
  | signedOn => rfl
  | signedOff => rfl
  | boarded => rw [State.board, State.changeSection_only]; rfl
  | joined => rw [State.joinWaiting, State.changeSection_only]; rfl
  | counted => rw [State.countUnits_only]
  | checked => rfl
  | left => rw [State.exitAboard, State.consider_only, State.changeSection_only]; rfl
  | leftList =>
    unfold State.exitWaiting
    dsimp only
    split
    · rw [State.consider_only, State.changeSection_only]; rfl
    · rw [State.changeSection_only]; rfl
  | supervised => rw [State.superviseGang_only]

theorem BerthEvent.only {s t : State} (h : BerthEvent s t) : t =
    { s with vessel := t.vessel, sections := t.sections, queues := t.queues } := by
  cases h with
  | opened => rfl
  | cleared => rfl
  | sectionSet => rw [State.changeSection_only]

theorem StoreEvent.only {s t : State} (h : StoreEvent s t) : t =
    { s with queues := t.queues, cursor := t.cursor, log := t.log, backlog := t.backlog } := by
  cases h <;> rfl

/-! ### An accepted CONFIG in parts -/

/-- The configuration stored with what it resets, and the halt that follows its polarity (R172). -/
def State.reconfigured (s : State) (items : List ConfigItem) : State :=
  { s.refit (storeItems s.config items) with halted := s.haltLine == (storeItems s.config items).haltPolarity }

/-- The re-evaluation that follows where an item of the Span Computer or the halt changed (R41). -/
def State.configEvaluated (s : State) (items : List ConfigItem) : State :=
  if spanItemsDiffer s.config (storeItems s.config items) || (s.reconfigured items).halted != s.halted then
    (s.reconfigured items).reevaluate (s.reconfigured items).fittedSlots
  else s.reconfigured items

/-- An accepted CONFIG: stored and re-evaluated, then the alerts, the check-in timers and ATTN (R172). -/
theorem State.applyConfig_eq (s : State) (items : List ConfigItem) : s.applyConfig items =
    ((if (s.refit (storeItems s.config items)).haltBegins then
        ((s.configEvaluated items).raiseTrips (State.tripsBegun s (s.configEvaluated items))).raise .quayHalt
          (.halt s.clock)
      else (s.configEvaluated items).raiseTrips (State.tripsBegun s (s.configEvaluated items))).applyCheckInterval
        s.config).driveAttn := rfl

end Sys2Proof.Machine

/-! PROOFS. What an event puts on the ports (chapter 11): notices behind what waits, on links that are up. -/

namespace Sys2Proof.Machine

/-- The ports of `t` are those of `s`, but for notices put behind what waits on ports that are link-up (R179). -/
def Tells (s t : State) : Prop := ∀ p, ∃ ns : List Telegram,
  t.port p = { s.port p with outbox := (s.port p).outbox ++ ns } ∧ (∀ x ∈ ns, x.isNotice = true) ∧
    ((s.port p).linkUp = false → ns = [])

section Tells

variable {s t u : State}

theorem Tells.of_ports (h : ∀ p, t.port p = s.port p) : Tells s t := fun p => ⟨[], by simp [h], by simp, fun _ => rfl⟩

theorem Tells.rfl : Tells s s := .of_ports fun _ => Eq.refl _

theorem Tells.trans (h : Tells s t) (k : Tells t u) : Tells s u := fun p => by
  obtain ⟨ns, htp, hnotice, hdown⟩ := h p
  obtain ⟨ms, hup, knotice, kdown⟩ := k p
  refine ⟨ns ++ ms, by rw [hup, htp, List.append_assoc], ?_, fun down => ?_⟩
  · simpa [or_imp, forall_and] using And.intro hnotice knotice
  · rw [hdown down, kdown (by rw [htp]; exact down), List.append_nil]

theorem Tells.then_ports (h : Tells s t) (k : ∀ p, u.port p = t.port p) : Tells s u := h.trans (.of_ports k)

theorem Tells.foldl {α : Type} {f : State → α → State} (h : ∀ s a, Tells s (f s a)) (l : List α) (s : State) :
    Tells s (l.foldl f s) := by
  induction l generalizing s with
  | nil => exact .rfl
  | cons a rest ih => exact (h s a).trans (ih _)

theorem Tells.linkUp (h : Tells s t) (p : PortId) : (t.port p).linkUp = (s.port p).linkUp := by
  obtain ⟨_, htp, -⟩ := h p
  rw [htp]

/-- A notice sent is told. -/
theorem State.send_tells {p : PortId} {x : Telegram} (notice : x.isNotice = true) : Tells s (s.send p x) := by
  rcases s.send_cases p x with ⟨up, sent⟩ | ⟨-, lost⟩
  · intro q
    rw [sent, State.port_setPort]
    split
    · next h =>
      subst h
      exact ⟨[x], Eq.refl _, by simpa using notice, by simp [up]⟩
    · exact Tells.rfl q
  · rw [lost]
    exact .rfl

end Tells

/-! ### The events -/

section

variable {s t : State}

theorem State.ports_of_only (h : t.cranePorts = s.cranePorts ∧ t.lanePort = s.lanePort ∧ t.gangPort = s.gangPort ∧
    t.planPort = s.planPort) (p : PortId) : t.port p = s.port p := by
  obtain ⟨crane, lane, gang, plan⟩ := h
  cases p with
  | crane c => exact congrArg (entry · c) crane
  | lane => exact lane
  | gang => exact gang
  | plan => exact plan

theorem SpanEvent.tells (h : SpanEvent s t) : Tells s t :=
  .of_ports (State.ports_of_only (by rw [h.only]; exact ⟨rfl, rfl, rfl, rfl⟩))

theorem BerthEvent.tells (h : BerthEvent s t) : Tells s t :=
  .of_ports (State.ports_of_only (by rw [h.only]; exact ⟨rfl, rfl, rfl, rfl⟩))

theorem StoreEvent.tells (h : StoreEvent s t) : Tells s t :=
  .of_ports (State.ports_of_only (by rw [h.only]; exact ⟨rfl, rfl, rfl, rfl⟩))

theorem State.boardWaiting_tells (s : State) (g : GangId) (i : Nat) : Tells s (s.boardWaiting g i) := by
  refine Tells.trans ?_ (State.send_tells rfl)
  split
  · exact .of_ports (by simp)
  · exact .rfl

theorem State.consider_tells (s : State) (i : Nat) : Tells s (s.consider i) := by
  rcases s.consider_cases i with same | ⟨_, _, _, -, -, -, -, boards⟩
  · rw [same]; exact .rfl
  · rw [boards]; exact (Tells.of_ports (by simp)).trans (State.boardWaiting_tells _ _ _)

theorem State.releaseFootprint_tells (s : State) (f : Footprint) : Tells s (s.releaseFootprint f) :=
  (Tells.of_ports (by simp)).trans (.foldl State.consider_tells _ _)

theorem State.releaseTruck_tells (s : State) (c : Slot) (f : Flight) : Tells s (s.releaseTruck c f) := by
  rcases s.releaseTruck_cases c f with same | ⟨_, _, _, _, _, -, -, -, cancels⟩ | ⟨_, _, _, -, -, -, departs⟩
  · rw [same]; exact .rfl
  · rw [cancels]; exact (Tells.of_ports (by simp)).trans (State.send_tells rfl)
  · rw [departs]; exact (Tells.of_ports (by simp)).trans (State.send_tells rfl)

theorem State.endFlight_tells (s : State) (c : Slot) : Tells s (s.endFlight c) :=
  .of_ports (by simp [State.endFlight])

theorem State.appendLog_tells (s : State) (c : Slot) (n : Nat) (rs : List CompletionRecord) :
    Tells s (s.appendLog c n rs) := .of_ports (by simp)

theorem GroupEvent.tells (h : GroupEvent s t) : Tells s t := by
  cases h with
  | taken => exact .of_ports (by simp [State.groupTaken, State.markRecords])
  | @landed c f =>
    have released : Tells s (if f.job.isDischarge then
        (s.landed f.job f.footprint (s.flightRecords c f)).1.releaseTruck c f
        else (s.landed f.job f.footprint (s.flightRecords c f)).1) := by
      split
      · exact (Tells.of_ports (by simp)).trans (State.releaseTruck_tells _ _ _)
      · exact .of_ports (by simp)
    exact ((((released.trans (State.releaseFootprint_tells _ _)).trans (State.appendLog_tells _ _ _ _)).then_ports
      fun _ => State.setQueue_port ..).trans (State.endFlight_tells _ _))
  | givenUp =>
    exact (((Tells.of_ports (fun _ => State.setQueue_port ..)).trans (State.releaseFootprint_tells _ _)).trans
      (State.releaseTruck_tells _ _ _)).trans (State.endFlight_tells _ _)
  | forced =>
    exact ((((State.releaseTruck_tells _ _ _).trans (State.releaseFootprint_tells _ _)).trans
      (State.appendLog_tells _ _ _ _)).then_ports fun _ => State.setQueue_port ..).trans (State.endFlight_tells _ _)

theorem State.attempt_tells (s : State) (c : Slot) : Tells s (s.attempt c) := by
  rcases s.attempt_cases c with same | ⟨f, m, _, l, -, -, -, -, -, called⟩
  · rw [same]; exact .rfl
  · rw [called, State.makeCall]
    exact (Tells.of_ports fun p => by cases p <;> rfl).trans (State.send_tells rfl)

theorem State.cancelStand_tells (s : State) (c : Slot) (l : Lane) : Tells s (s.cancelStand c l) := by
  unfold State.cancelStand
  split
  · exact (Tells.of_ports (by simp)).trans (State.send_tells rfl)
  · exact .rfl

theorem TruckEvent.tells (h : TruckEvent s t) : Tells s t := by
  cases h with
  | locked => exact .of_ports (by simp)
  | @lifted c f =>
    unfold State.liftGroup
    dsimp only
    split
    · exact (Tells.of_ports fun _ => State.setFlight_port ..).trans (State.releaseTruck_tells _ _ _)
    · exact .of_ports (by simp)
  | attempted => exact State.attempt_tells _ _
  | opened => exact .of_ports fun p => by cases p <;> rfl
  | @closed c l =>
    unfold State.closeCall
    dsimp only
    refine (State.cancelStand_tells s c l).then_ports fun p => ?_
    split
    · exact State.setFlight_port ..
    · rfl
  | arrived =>
    unfold State.takeArrival
    dsimp only
    split
    · exact (Tells.of_ports (by simp)).trans (State.send_tells rfl)
    · exact .of_ports (by simp)
  | recalled => exact .of_ports (by simp)
  | failed =>
    exact ((Tells.of_ports (by simp)).trans (State.send_tells rfl)).then_ports fun _ => State.raise_port ..
  | unserved => exact .of_ports (by simp)
  | freed => exact .of_ports (by simp)
  | restarted => exact .of_ports (by simp)

theorem State.superviseGang_tells (s : State) (g : GangId) : Tells s (s.superviseGang g) := by
  unfold State.superviseGang State.becomeOverdue
  split
  · split
    · exact (Tells.of_ports (by simp)).trans (State.send_tells rfl)
    all_goals exact .rfl
  · exact .rfl

theorem GangEvent.tells (h : GangEvent s t) : Tells s t := by
  cases h with
  | signedOn => exact .of_ports (by simp)
  | signedOff => exact .of_ports (by simp)
  | boarded => exact .of_ports (by simp [State.board])
  | joined => exact .of_ports (by simp [State.joinWaiting])
  | counted =>
    unfold State.countUnits
    dsimp only
    split <;> exact .of_ports (by simp)
  | checked => exact .of_ports (by simp)
  | left =>
    unfold State.exitAboard
    refine Tells.then_ports (Tells.trans (t := State.changeSection _ _ _) ?_ (State.consider_tells _ _))
      fun _ => State.setGang_port ..
    exact .of_ports fun _ => State.changeSection_port ..
  | leftList =>
    unfold State.exitWaiting
    dsimp only
    split
    · exact (Tells.of_ports (by simp)).trans (State.consider_tells _ _)
    · exact .of_ports (by simp)
  | supervised => exact State.superviseGang_tells _ _

theorem State.enterSetup_tells (s : State) : Tells s s.enterSetup :=
  .of_ports fun p => by rw [State.enterSetup, State.reevaluate_port]; cases p <;> rfl

theorem State.enterOperating_tells (s : State) : Tells s s.enterOperating :=
  .of_ports fun p => by rw [State.enterOperating, State.reevaluate_port]; cases p <;> rfl

theorem State.applyCheckInterval_tells (s : State) (old : ConfigSet) : Tells s (s.applyCheckInterval old) := by
  unfold State.applyCheckInterval
  split
  · exact .rfl
  · exact .foldl State.superviseGang_tells _ _

theorem State.applyConfig_tells (s : State) (items : List ConfigItem) : Tells s (s.applyConfig items) := by
  have reconfigured : Tells s (s.reconfigured items) :=
    .of_ports fun p => by cases p <;> rfl
  have evaluated : Tells s (s.configEvaluated items) := by
    unfold State.configEvaluated
    split
    · exact reconfigured.then_ports fun _ => State.reevaluate_port ..
    · exact reconfigured
  have tripped := fun ks => evaluated.then_ports (u := (s.configEvaluated items).raiseTrips ks)
    fun p => by rw [State.raiseTrips, State.raiseFor_port, State.raiseFor_port]
  rw [State.applyConfig_eq]
  refine Tells.then_ports ?_ fun _ => State.driveAttn_port ..
  have raised : Tells s (if (s.refit (storeItems s.config items)).haltBegins then
      ((s.configEvaluated items).raiseTrips (State.tripsBegun s (s.configEvaluated items))).raise .quayHalt (.halt s.clock)
      else (s.configEvaluated items).raiseTrips (State.tripsBegun s (s.configEvaluated items))) := by
    split
    · exact (tripped _).then_ports fun _ => State.raise_port ..
    · exact tripped _
  exact raised.trans (State.applyCheckInterval_tells _ _)

end

end Sys2Proof.Machine

namespace Sys2Proof.Machine

/-! ### What the event of a request does -/

/-- One event that puts nothing but notices on the ports. -/
def Acts (s t : State) : Prop := Happens s t ∧ Tells s t

/-- Such events one after another. -/
abbrev Does : State → State → Prop := Steps Acts

section Does

variable {s t : State}

theorem Does.span (h : SpanEvent s t) : Does s t := .single ⟨.span h, h.tells⟩

theorem Does.setup (h : SetupEvent s t) (tells : Tells s t) : Does s t := .single ⟨.setup h, tells⟩

theorem Does.group (h : GroupEvent s t) : Does s t := .single ⟨.group h, h.tells⟩

theorem Does.truck (h : TruckEvent s t) : Does s t := .single ⟨.truck h, h.tells⟩

theorem Does.gang (h : GangEvent s t) : Does s t := .single ⟨.gang h, h.tells⟩

theorem Does.berth (h : BerthEvent s t) : Does s t := .single ⟨.berth h, h.tells⟩

theorem Does.store (h : StoreEvent s t) : Does s t := .single ⟨.store h, h.tells⟩

theorem Does.send {p : PortId} {x : Telegram} (notice : x.isNotice = true) : Does s (s.send p x) :=
  .single ⟨.port (.sent s p x), State.send_tells notice⟩

theorem Does.reaches (h : Does s t) : Reaches s t := by
  induction h with
  | refl => exact .refl
  | tail _ acts ih => exact ih.tail acts.1

theorem Does.tells (h : Does s t) : Tells s t := by
  induction h with
  | refl => exact .rfl
  | tail _ acts ih => exact ih.trans acts.2

theorem Does.foldl {α : Type} {f : State → α → State} (h : ∀ s a, Does s (f s a)) (l : List α) (s : State) :
    Does s (l.foldl f s) := by
  induction l generalizing s with
  | nil => exact .refl
  | cons a rest ih => exact (h s a).trans (ih _)

end Does

/-- What a request's event gives: the state its events reach, and the replies, one but for STATUS (R179). -/
structure Responds (q : RequestType) (s : State) (r : State × List Telegram) : Prop where
  does : Does s r.1
  some : r.2 ≠ []
  replies : ∀ x ∈ r.2, x.isNotice = false
  one : q ≠ .status → r.2.length = 1

section Responds

variable {q : RequestType} {s t : State} {x : Telegram}

theorem Does.responds (h : Does s t) (reply : x.isNotice = false) : Responds q s (t, [x]) :=
  ⟨h, by simp, by simpa using reply, fun _ => rfl⟩

theorem Responds.same (reply : x.isNotice = false) : Responds q s (s, [x]) := Does.responds .refl reply

end Responds

/-! ### Links: a valid telegram, a request and its answer -/

theorem State.attempt_does (s : State) (c : Slot) : Does s (s.attempt c) :=
  Does.truck (.attempted s c)

theorem State.attemptAll_does (s : State) : Does s s.attemptAll := .foldl State.attempt_does _ _

/-- What the resync sends are notices (R157). -/
theorem State.resyncNotices_isNotice (s : State) {x : Telegram} (h : x ∈ s.resyncNotices) : x.isNotice = true := by
  simp only [State.resyncNotices, List.mem_flatMap] at h
  obtain ⟨c, -, l, -, h⟩ := h
  unfold resyncNotice at h
  split at h
  all_goals simp only [List.mem_singleton, List.not_mem_nil] at h
  all_goals exact h ▸ rfl

theorem State.sendAll_does {p : PortId} {xs : List Telegram} (notices : ∀ x ∈ xs, x.isNotice = true) (s : State) :
    Does s (xs.foldl (fun s t => s.send p t) s) := by
  induction xs generalizing s with
  | nil => exact .refl
  | cons x rest ih =>
    exact (Does.send (notices x (by simp))).trans (ih (fun y hy => notices y (by simp [hy])) _)

theorem State.laneLinkUp_does (s : State) : Does s s.laneLinkUp :=
  (State.sendAll_does (fun _ => s.resyncNotices_isNotice) s).trans (State.attemptAll_does _)

theorem State.telegramIn_reaches (s : State) (p : PortId) : Reaches s (s.telegramIn p) := by
  have heard : Reaches s (s.heard p) := Happens.reaches (.port (.heard s p))
  by_cases h : p ≠ .lane ∨ (s.port p).linkUp = true
  · rwa [s.telegramIn_heard h]
  · obtain ⟨lane, down⟩ : p = .lane ∧ (s.port p).linkUp = false := by simpa using h
    subst lane
    rw [s.telegramIn_laneDown down]
    exact heard.trans (State.laneLinkUp_does _).reaches

/-- A request taken: what its event responds, the replies put before the notices of the event (R179). -/
def Answered (p : PortId) (q : RequestType) (s t : State) : Prop :=
  ∃ r, Responds q (s.telegramIn p) r ∧ t = r.1.insertTelegrams p ((s.telegramIn p).port p).outbox.length r.2

theorem Answered.reaches {p : PortId} {q : RequestType} {s t : State} (h : Answered p q s t) : Reaches s t := by
  obtain ⟨r, responds, rfl⟩ := h
  exact ((s.telegramIn_reaches p).trans responds.does.reaches).tail (.port (.inserted _ _ _ _))

theorem State.answer_isAnswered {s : State} {p : PortId} {q : RequestType} {event : State → State × List Telegram}
    (h : ∀ u, Responds q u (event u)) : Answered p q s ((s.telegramIn p).answer p event) := ⟨_, h _, rfl⟩

theorem State.request_isAnswered {α : Type} {s t : State} {p : PortId} {q : RequestType} {b : Body α}
    {event : α → State → State × List Telegram} (h : ∀ x u, Responds q u (event x u))
    (run : s.request p q b event = .next t) : Answered p q s t := by
  obtain rfl := Host.Outcome.next.inj run
  cases b with
  | fields x => exact ⟨_, h x _, rfl⟩
  | malformed => exact ⟨_, .same rfl, rfl⟩

theorem State.craneRequest_isAnswered {α : Type} {s t : State} {c : Slot} {q : RequestType} {b : Body α}
    {event : α → State → State × List Telegram} (h : ∀ x u, u.fitted c = true → Responds q u (event x u))
    (run : s.craneRequest c q b event = .next t) : Answered (.crane c) q s t := by
  refine State.request_isAnswered (fun x u => ?_) run
  split
  · exact h x u ‹_›
  · exact .same rfl

theorem State.joinRequest_isAnswered {s t : State} {c : Slot} {page : Nat} {malformed : Bool}
    {event : State → State × List Telegram} (h : ∀ u, u.fitted c = true → Responds .join u (event u))
    (run : s.joinRequest c page malformed event = .next t) : Answered (.crane c) .join s t := by
  obtain rfl := Host.Outcome.next.inj run
  refine State.answer_isAnswered fun u => ?_
  repeat' split
  · exact (Does.span (.joinAbandoned _ c)).responds rfl
  · exact h _ ‹_›
  · exact .same rfl

/-! ### Crane Registry and Span Computer -/

section Span

variable {q : RequestType} {s : State} {c : Slot}

theorem State.refuseJoin_responds (page : Nat) (r : JoinResult) : Responds q s (s.refuseJoin c page r) :=
  (Does.span (.joinAbandoned s c)).responds rfl

theorem joinPage0Event_responds (p : Page0) (fitted : s.fitted c = true) : Responds q s (joinPage0Event c p s) := by
  unfold joinPage0Event
  repeat' split
  · exact State.refuseJoin_responds _ _
  · exact State.refuseJoin_responds _ _
  · exact (Does.span (.joinStarted fitted)).responds rfl

theorem joinMiddleEvent_responds (b : JoinMiddle) (fitted : s.fitted c = true) :
    Responds q s (joinMiddleEvent c b s) := by
  unfold joinMiddleEvent
  split
  · next awaited =>
    split
    · next good =>
      exact (Does.span (.pageOne fitted awaited (Bool.and_eq_true_iff.1 good).2)).responds rfl
    · exact State.refuseJoin_responds _ _
  · next awaited =>
    split
    · next good =>
      exact (Does.span (.pageTwo fitted awaited (Bool.and_eq_true_iff.1 good).2)).responds rfl
    · exact State.refuseJoin_responds _ _
  all_goals exact State.refuseJoin_responds _ _

theorem joinLastEvent_responds (p : JoinLast) (fitted : s.fitted c = true) : Responds q s (joinLastEvent c p s) := by
  unfold joinLastEvent
  split
  · next one two awaited =>
    split
    · next good =>
      have done : Does s (s.joinDone c { rail := one, hoist := two, lanes := p.lanes }) :=
        Does.span (.joinDone fitted awaited (Bool.and_eq_true_iff.1 good).2)
      rw [State.completeJoin_eq]
      split
      · exact done.responds rfl
      · exact Does.responds (done.trans (State.attempt_does _ c)) rfl
    · exact State.refuseJoin_responds _ _
  · exact State.refuseJoin_responds _ _

theorem positionEvent_responds (r : PositionReport) (fitted : s.fitted c = true) :
    Responds q s (positionEvent c r s) := by
  unfold positionEvent
  split
  · next h => exact (Does.span (.positionTaken r fitted (.inl h))).responds rfl
  · next h => exact (Does.span (.positionTaken r fitted (.inr h))).responds rfl
  all_goals exact .same rfl

theorem leaveEvent_responds (fitted : s.fitted c = true) : Responds q s (leaveEvent c () s) := by
  unfold leaveEvent
  repeat' split
  · exact .same rfl
  · exact .same rfl
  · exact (Does.span (.craneLost fitted)).responds rfl

theorem travelEvent_responds (target : Nat) (fitted : s.fitted c = true) : Responds q s (travelEvent c target s) := by
  unfold travelEvent
  split
  · exact .same rfl
  · next free => exact (Does.span (.goalGranted target fitted free)).responds rfl

theorem travelCancelEvent_responds : Responds q s (travelCancelEvent c () s) := by
  unfold travelCancelEvent
  have cancelled : Does s (s.cancelGoal c) := Does.span (.goalCancelled s c)
  split
  · exact cancelled.responds rfl
  · exact cancelled.responds rfl
  · exact .same rfl
  · exact .same rfl

theorem alertAckEvent_responds (mask : BitVec 16) : Responds q s (alertAckEvent mask s) := by
  unfold alertAckEvent
  split
  · exact (Does.span (.acknowledged s mask)).responds rfl
  · exact .same rfl

theorem overrideEvent_responds (r : OverrideRequest) : Responds q s (overrideEvent r s) := by
  have set : ∀ {c o}, s.mode ≠ .operating → (∀ g, o = some g → geometryInRange g = true) →
      Does s (s.setOverride c o) := fun mode good =>
    (Does.span (.overrideStored mode good)).trans (State.attempt_does _ _)
  unfold overrideEvent
  split
  · exact .same rfl
  · split
    · exact .same rfl
    · next mode =>
      split
      · exact .same rfl
      · split
        · next good => exact (set mode (by rintro _ ⟨⟩; exact good)).responds rfl
        · exact .same rfl
      · refine Does.responds ?_ rfl
        split
        · exact set mode (by simp)
        · exact .refl

end Span

/-! ### Groups in flight, trucks and stands -/

section Groups

variable {q : RequestType} {s : State} {c : Slot}

theorem takeEvent_responds (fitted : s.fitted c = true) : Responds q s (takeEvent c () s) := by
  unfold takeEvent
  split
  · split <;> exact .same rfl
  · next idle =>
    split
    · exact .same rfl
    · next passes =>
      split
      · exact .same rfl
      · next g ready =>
        refine Does.responds ?_ rfl
        rw [State.takeGroup_eq]
        exact (Does.group (.taken fitted idle passes ready)).trans (State.attempt_does _ c)

/-- A report about a group in flight reaches what its event reaches from the group there is. -/
theorem State.aboutFlight_responds {ty : RequestType} {tag : Nat} {event : Flight → State → State × List Telegram}
    (h : ∀ f, s.flight c = some f → Responds q s (event f s)) : Responds q s (s.aboutFlight c ty tag event) := by
  unfold State.aboutFlight
  split
  · exact .same rfl
  · exact .same rfl
  · exact .same rfl
  · next f lift _ _ =>
    split
    · exact h f lift
    · exact .same rfl

theorem lockedEvent_responds (r : PhaseReport) : Responds q s (lockedEvent c r s) := by
  refine State.aboutFlight_responds fun f lift => ?_
  split
  · exact .same rfl
  · split
    · next phase =>
      split
      · exact .same rfl
      · exact (Does.truck (.locked lift phase)).responds rfl
    · exact .same rfl
    · exact .same rfl

theorem aloftEvent_responds (tag : Nat) : Responds q s (aloftEvent c tag s) := by
  refine State.aboutFlight_responds fun f lift => ?_
  split
  · exact .same rfl
  · next phase => exact (Does.truck (.lifted lift phase)).responds rfl
  · exact .same rfl

theorem landedEvent_responds (tag : Nat) : Responds q s (landedEvent c tag s) := by
  refine State.aboutFlight_responds fun f lift => ?_
  split
  · exact .same rfl
  · exact .same rfl
  · next aloft =>
    split
    · exact .same rfl
    · exact (Does.group (.landed lift aloft)).responds rfl

theorem abandonEvent_responds (tag : Nat) : Responds q s (abandonEvent c tag s) := by
  refine State.aboutFlight_responds fun f lift => ?_
  split
  · exact .same rfl
  all_goals exact (Does.group (.givenUp lift)).responds rfl

theorem setBackEvent_responds (tag : Nat) : Responds q s (setBackEvent c tag s) := by
  refine State.aboutFlight_responds fun f lift => ?_
  split
  · exact .same rfl
  · split
    · exact .same rfl
    · exact .same rfl
    · exact (Does.group (.givenUp lift)).responds rfl

theorem forceEvent_responds (slot : Nat) : Responds q s (forceEvent slot s) := by
  unfold forceEvent
  split
  · exact .same rfl
  · split
    · exact .same rfl
    · split
      · exact .same rfl
      · next lift => exact (Does.group (.forced lift)).responds rfl

/-- The calls to be cancelled stand at different stands, and are CALLED. -/
theorem State.closedCalls_spec (s : State) :
    s.closedCalls.Nodup ∧ ∀ x ∈ s.closedCalls, (s.stand x.1 x.2).name = .called := by
  have all8_nodup : all8.Nodup := by decide
  constructor
  · refine List.pairwise_flatMap.2 ⟨fun c _ => ?_, ?_⟩
    · exact List.Pairwise.map _ (fun _ _ apart same => apart (Prod.mk.inj same).2) (List.Pairwise.filter _ all8_nodup)
    · refine all8_nodup.imp fun {c d} hcd => ?_
      simp only [List.mem_map]
      rintro _ ⟨l, _, rfl⟩ _ ⟨m, _, rfl⟩ same
      exact hcd (Prod.mk.inj same).1
  · intro x hx
    simp only [State.closedCalls, List.mem_flatMap, List.mem_map, List.mem_filter, Bool.and_eq_true, beq_iff_eq] at hx
    obtain ⟨c, -, l, ⟨-, called, -⟩, rfl⟩ := hx
    exact called

theorem State.cancelStand_stand_other {d : Slot} {l m : Lane} (h : (d, m) ≠ (c, l)) :
    (s.cancelStand c l).stand d m = s.stand d m := by
  have : ¬ (d = c ∧ m = l) := fun e => h (by rw [e.1, e.2])
  unfold State.cancelStand
  split
  · simp [State.stand_setStand, this]
  · rfl

theorem State.closeCall_stand_other {x y : Slot × Lane} (h : y ≠ x) :
    (s.closeCall x).stand y.1 y.2 = s.stand y.1 y.2 := by
  have := State.cancelStand_stand_other (s := s) (c := x.1) (l := x.2) (d := y.1) (m := y.2) h
  unfold State.closeCall
  dsimp only
  split
  · rw [State.setFlight_stand, this]
  · exact this

theorem State.closeCalls_does {l : List (Slot × Lane)} (nodup : l.Nodup) (s : State)
    (called : ∀ x ∈ l, (s.stand x.1 x.2).name = .called) : Does s (l.foldl State.closeCall s) := by
  induction l generalizing s with
  | nil => exact .refl
  | cons x rest ih =>
    obtain ⟨new, nodup⟩ := List.nodup_cons.1 nodup
    refine (Does.truck (.closed (called x (by simp)))).trans (ih nodup _ fun y hy => ?_)
    rw [State.closeCall_stand_other fun e : y = x => new (e ▸ hy)]
    exact called y (by simp [hy])

theorem lanesEvent_responds (mask : Mask) : Responds q s (lanesEvent mask s) := by
  have opened : Does s { s with laneMask := mask } := Does.truck (.opened s mask)
  obtain ⟨nodup, called⟩ := ({ s with laneMask := mask } : State).closedCalls_spec
  simp only [lanesEvent]
  exact Does.responds ((opened.trans (State.closeCalls_does nodup _ called)).trans (State.attemptAll_does _)) rfl

/-- A lane telegram reaches what its event reaches at the stand it names. -/
theorem standRequest_responds {ty : RequestType} {slot lane : Nat} {valid : Bool}
    {event : Slot → Lane → State → State × List Telegram} (h : ∀ c l, Responds q s (event c l s)) :
    Responds q s (standRequest ty slot lane valid event s) := by
  unfold standRequest
  split
  · split
    · exact h _ _
    · exact .same rfl
  · exact .same rfl

theorem arriveEvent_responds (r : ArriveReport) : Responds q s (arriveEvent r s) := by
  refine standRequest_responds fun c l => ?_
  unfold arriveAt
  split
  · next called =>
    split
    · exact (Does.truck (.arrived r.truck called)).responds rfl
    · exact .same rfl
  all_goals exact .same rfl

theorem State.lapse_does {l : Lane} {cause : LostCause}
    (busy : (s.stand c l).name = .called ∨ (s.stand c l).name = .occupied) :
    Does s ((s.setStand c l .free).lapse c l cause) := by
  unfold State.lapse
  rw [State.setStand_flight]
  split
  · next idle => exact Does.truck (.unserved busy idle)
  · next f lift =>
    dsimp only
    split
    · exact (Does.truck (.recalled busy lift)).trans (State.attempt_does _ c)
    · exact Does.truck (.failed _ busy lift)

theorem State.truckLeft_does {l : Lane} (busy : (s.stand c l).name = .called ∨ (s.stand c l).name = .occupied) :
    Does s (s.truckLeft c l) := by
  unfold State.truckLeft
  dsimp only
  split
  · next f lift =>
    split
    · exact Does.truck (.failed f.recallCount busy lift)
    · exact State.lapse_does busy
  · next idle => exact Does.truck (.unserved busy idle)

theorem State.clearStand_does {l : Lane} (released : (s.stand c l).name = .released) :
    Does s (s.clearStand c l) :=
  (Does.truck (.freed released)).trans (State.attempt_does _ c)

theorem goneEvent_responds (r : GoneReport) : Responds q s (goneEvent r s) := by
  refine standRequest_responds fun c l => ?_
  unfold goneAt
  split
  · next h =>
    split
    · exact Does.responds (State.truckLeft_does (.inr (by rw [h]; rfl))) rfl
    · exact .same rfl
  · next h =>
    split
    · exact Does.responds (State.clearStand_does (by rw [h]; rfl)) rfl
    · exact .same rfl
  all_goals exact .same rfl

theorem clearEvent_responds (r : StandRef) : Responds q s (clearEvent r s) := by
  refine standRequest_responds fun c l => ?_
  unfold clearAt
  split
  · next h => exact Does.responds (State.clearStand_does (by rw [h]; rfl)) rfl
  all_goals exact .same rfl

theorem State.send_setStand (l : Lane) (r : Stand) (p : PortId) (t : Telegram) :
    (s.setStand c l r).send p t = (s.send p t).setStand c l r := by
  unfold State.send
  rw [State.setStand_port]
  cases p <;> split <;> rfl

theorem execCallDeadlineExpiry_does {t : State} {l : Lane} (run : execCallDeadlineExpiry c l s = .next t) :
    Does s t := by
  obtain rfl := Host.Outcome.next.inj run
  split
  · next k due deadline held called =>
    split
    · have cancel : s.cancelStand c l = (s.send .lane (.cancel k.number c l)).setStand c l .free := by
        rw [State.cancelStand, called, ← State.send_setStand]
      rw [cancel]
      exact (Does.send rfl).trans (State.lapse_does (.inl (by rw [State.send_stand, called]; rfl)))
    · exact .refl
  all_goals exact .refl

theorem recallEvent_responds (tag : Nat) : Responds q s (recallEvent tag s) := by
  unfold recallEvent
  split
  · exact .same rfl
  · split
    · exact .same rfl
    · next c f held =>
      split
      · next failed =>
        exact Does.responds ((Does.truck (.restarted (State.flightOf_mem held).1 failed)).trans
          (State.attempt_does _ c)) rfl
      · exact .same rfl

end Groups

/-! ### Gangs -/

section Gangs

variable {q : RequestType} {s : State}

/-- A gang telegram reaches what its event reaches for the gang it names. -/
theorem gangRequest_responds {ty : RequestType} {id : Nat} {event : GangId → State → State × List Telegram}
    (h : ∀ g, Responds q s (event g s)) : Responds q s (gangRequest ty id event s) := by
  unfold gangRequest
  split
  · exact h _
  · exact .same rfl

theorem signOnEvent_responds (r : SignOnReport) : Responds q s (signOnEvent r s) := by
  refine gangRequest_responds fun g => ?_
  split
  · next off => exact (Does.gang (.signedOn _ off)).responds rfl
  all_goals exact .same rfl

theorem signOffEvent_responds (id : Nat) : Responds q s (signOffEvent id s) := by
  refine gangRequest_responds fun g => ?_
  split
  · next ashore => exact (Does.gang (.signedOff ashore)).responds rfl
  all_goals exact .same rfl

theorem enterEvent_responds (r : EnterRequest) : Responds q s (enterEvent r s) := by
  refine gangRequest_responds fun g => ?_
  unfold enterGang
  split
  · exact .same rfl
  · next mode =>
    have mode : s.mode = .operating := Classical.not_not.1 mode
    split
    · next ashore =>
      split
      · exact .same rfl
      · next t _ =>
        split
        · exact .same rfl
        · next vessel =>
          split
          · exact .same rfl
          · next range =>
            obtain ⟨low, high⟩ := not_or.1 range
            split
            · next atOnce => exact (Does.gang (.boarded t mode ashore atOnce)).responds rfl
            · exact (Does.gang (.joined t mode ashore (by simpa using vessel) low (Nat.not_lt.1 high))).responds rfl
    all_goals exact .same rfl

theorem unitsEvent_responds (r : UnitsReport) : Responds q s (unitsEvent r s) := by
  refine gangRequest_responds fun g => ?_
  unfold unitsOf
  split
  · split
    · exact .same rfl
    · exact (Does.gang (.counted ..)).responds rfl
  all_goals exact .same rfl

theorem checkEvent_responds (id : Nat) : Responds q s (checkEvent id s) := by
  refine gangRequest_responds fun g => ?_
  unfold checkGang
  split
  · next aboard => exact (Does.gang (.checked aboard)).responds rfl
  all_goals exact .same rfl

theorem exitEvent_responds (id : Nat) : Responds q s (exitEvent id s) := by
  refine gangRequest_responds fun g => ?_
  unfold exitGang
  split
  · next aboard => exact (Does.gang (.left aboard)).responds rfl
  · next waiting => exact (Does.gang (.leftList waiting)).responds rfl
  all_goals exact .same rfl

end Gangs

/-! ### The planning system's requests -/

section Plan

variable {q : RequestType} {s : State}

theorem setupEvent_responds : Responds q s (setupEvent () s) := by
  unfold setupEvent
  split
  · exact .same rfl
  · split
    · exact .same rfl
    · next idle => exact (Does.setup (.setup (Bool.not_eq_true _ ▸ idle)) (State.enterSetup_tells s)).responds rfl

theorem operateEvent_responds : Responds q s (operateEvent () s) := by
  unfold operateEvent
  split
  · exact .same rfl
  · next mode =>
    split
    · exact .same rfl
    · exact (Does.setup (.operating mode) (State.enterOperating_tells s)).responds rfl

theorem configEvent_responds (items : List ConfigItem) : Responds q s (configEvent items s) := by
  unfold configEvent
  split
  · exact .same rfl
  · next good => exact (Does.setup (.configured good) (State.applyConfig_tells s items)).responds rfl

theorem openBerthEvent_responds (r : VesselRequest) : Responds q s (openBerthEvent r s) := by
  unfold openBerthEvent
  split
  · exact .same rfl
  · next vessel =>
    split
    · exact .same rfl
    · next good =>
      split
      · exact (Does.berth (.opened (by simpa using vessel) good)).responds rfl
      · exact .same rfl

theorem clearBerthEvent_responds : Responds q s (clearBerthEvent () s) := by
  unfold clearBerthEvent
  split
  · exact .same rfl
  · split
    · exact .same rfl
    · next idle => exact (Does.berth (.cleared (s.berthIdle_iff.2 (Bool.not_eq_true _ ▸ idle)))).responds rfl

theorem sectionSetEvent_responds (r : SectionRequest) : Responds q s (sectionSetEvent r s) := by
  unfold sectionSetEvent
  split
  · exact .same rfl
  · split
    · exact .same rfl
    · split
      · exact .same rfl
      · split
        · exact .same rfl
        · exact (Does.berth (.sectionSet ..)).responds rfl

theorem appendEvent_responds (r : AppendRequest) : Responds q s (appendEvent r s) := by
  unfold appendEvent
  split
  · exact .same rfl
  · split
    · exact .same rfl
    · next vessel =>
      split
      · exact .same rfl
      · next good =>
        split
        · exact .same rfl
        · next new =>
          split
          · exact .same rfl
          · next room => exact (Does.store (.appended vessel good (Bool.not_eq_true _ ▸ new) room)).responds rfl

theorem insertEvent_responds (r : EditRequest) : Responds q s (insertEvent r s) := by
  unfold insertEvent
  split
  · exact .same rfl
  · next vessel =>
    split
    · exact .same rfl
    · next good =>
      split
      · exact .same rfl
      · next found =>
        split
        · exact .same rfl
        · next free =>
          split
          · exact .same rfl
          · next new =>
            split
            · exact .same rfl
            · next room =>
              exact (Does.store (.inserted vessel good found free (Bool.not_eq_true _ ▸ new) room)).responds rfl

theorem deleteEvent_responds (tag : Nat) : Responds q s (deleteEvent tag s) := by
  unfold deleteEvent
  split
  · exact .same rfl
  · next found =>
    split
    · exact .same rfl
    · next free => exact (Does.store (.deleted found free)).responds rfl

theorem replaceEvent_responds (r : EditRequest) : Responds q s (replaceEvent r s) := by
  unfold replaceEvent
  split
  · exact .same rfl
  · next vessel =>
    split
    · exact .same rfl
    · next m good =>
      split
      · exact .same rfl
      · next found =>
        split
        · exact .same rfl
        · next free =>
          split
          · exact .same rfl
          · next new =>
            have new : m.tag = r.tag ∨ s.inPool m.tag = false := by
              by_cases same : m.tag = r.tag
              · exact .inl same
              · exact .inr (by simpa [same] using new)
            exact (Does.store (.replaced vessel good found free new)).responds rfl

theorem readQueueEvent_responds (r : QueueRequest) : Responds q s (readQueueEvent r s) := by
  unfold readQueueEvent
  split
  · exact .same rfl
  · split
    · exact .same rfl
    · exact (Does.store (.pointed ..)).responds rfl

theorem readNextEvent_responds : Responds q s (readNextEvent () s) := by
  unfold readNextEvent
  dsimp only
  split
  · exact (Does.store (.pointed ..)).responds rfl
  · exact .same rfl

theorem logReadEvent_responds (k : Nat) : Responds q s (logReadEvent k s) := by
  unfold logReadEvent
  split <;> exact .same rfl

end Plan

/-! ### Every command -/

theorem execLinkSilenceExpiry_reaches {s t : State} {p : PortId} (run : execLinkSilenceExpiry p s = .next t) :
    Reaches s t := by
  obtain rfl := Host.Outcome.next.inj run
  split
  · have down : Reaches s (s.linkDown p) := Happens.reaches (.port (.linkDown s p))
    unfold State.takeLinkLoss
    split
    · split
      · next h => exact down.tail (.span (.craneLost (Bool.and_eq_true_iff.1 h).1))
      · exact down
    all_goals exact down
  · exact .refl

theorem statusEvent_responds {s : State} (snap : State → Snapshot) : Responds .status s (statusEvent snap () s) :=
  by
  refine ⟨.refl, ?_, ?_, fun h => absurd rfl h⟩
  · show statusReply (snap s) ≠ []
    unfold statusReply
    dsimp only
    split
    · simp
    · simp only [ne_eq, List.map_eq_nil_iff, List.range_eq_nil]
      omega
  · show ∀ x ∈ statusReply (snap s), x.isNotice = false
    unfold statusReply
    dsimp only
    split
    · simp [Telegram.isNotice]
    · simp [Telegram.isNotice]

/-- A telegram is answered as the event of its request says. -/
def TelegramAnswered : Option (PortId × RequestType) → State → State → Prop
  | some (p, q), s, t => Answered p q s t
  | none, _, _ => True

theorem exec_telegramAnswered {i : Instr} {s t : State} (run : exec i s = .next t) :
    TelegramAnswered (telegramOf i) s t := by
  cases i with
  | joinPage0 c b =>
    cases b with
    | malformed => exact State.joinRequest_isAnswered (fun _ _ => .same rfl) run
    | fields p => exact State.joinRequest_isAnswered (fun _ => joinPage0Event_responds p) run
  | joinPage12 c b => cases b <;> exact State.joinRequest_isAnswered (fun _ => joinMiddleEvent_responds _) run
  | joinPage3 c b =>
    cases b with
    | malformed => exact State.joinRequest_isAnswered (fun _ _ => .same rfl) run
    | fields p => exact State.joinRequest_isAnswered (fun _ => joinLastEvent_responds p) run
  | position c b => exact State.craneRequest_isAnswered (fun r _ => positionEvent_responds r) run
  | travel c b => exact State.craneRequest_isAnswered (fun n _ => travelEvent_responds n) run
  | travelCancel c b => exact State.craneRequest_isAnswered (fun _ _ _ => travelCancelEvent_responds) run
  | leave c b => exact State.craneRequest_isAnswered (fun _ _ => leaveEvent_responds) run
  | take c b => exact State.craneRequest_isAnswered (fun _ _ => takeEvent_responds) run
  | phaseLocked c b => exact State.craneRequest_isAnswered (fun r _ _ => lockedEvent_responds r) run
  | phaseAloft c b => exact State.craneRequest_isAnswered (fun n _ _ => aloftEvent_responds n) run
  | phaseLanded c b => exact State.craneRequest_isAnswered (fun n _ _ => landedEvent_responds n) run
  | abandon c b => exact State.craneRequest_isAnswered (fun n _ _ => abandonEvent_responds n) run
  | setBack c b => exact State.craneRequest_isAnswered (fun n _ _ => setBackEvent_responds n) run
  | lanes b => exact State.request_isAnswered (fun m _ => lanesEvent_responds m) run
  | arrive b => exact State.request_isAnswered (fun r _ => arriveEvent_responds r) run
  | gone b => exact State.request_isAnswered (fun r _ => goneEvent_responds r) run
  | clear b => exact State.request_isAnswered (fun r _ => clearEvent_responds r) run
  | signOn b => exact State.request_isAnswered (fun r _ => signOnEvent_responds r) run
  | signOff b => exact State.request_isAnswered (fun n _ => signOffEvent_responds n) run
  | enter b => exact State.request_isAnswered (fun r _ => enterEvent_responds r) run
  | units b => exact State.request_isAnswered (fun r _ => unitsEvent_responds r) run
  | check b => exact State.request_isAnswered (fun n _ => checkEvent_responds n) run
  | exit b => exact State.request_isAnswered (fun n _ => exitEvent_responds n) run
  | setup b => exact State.request_isAnswered (fun _ _ => setupEvent_responds) run
  | operate b => exact State.request_isAnswered (fun _ _ => operateEvent_responds) run
  | config b => exact State.request_isAnswered (fun l _ => configEvent_responds l) run
  | overrideGeometry b => exact State.request_isAnswered (fun r _ => overrideEvent_responds r) run
  | openBerth b => exact State.request_isAnswered (fun r _ => openBerthEvent_responds r) run
  | clearBerth b => exact State.request_isAnswered (fun _ _ => clearBerthEvent_responds) run
  | sectionSet b => exact State.request_isAnswered (fun r _ => sectionSetEvent_responds r) run
  | append b => exact State.request_isAnswered (fun r _ => appendEvent_responds r) run
  | insert b => exact State.request_isAnswered (fun r _ => insertEvent_responds r) run
  | delete b => exact State.request_isAnswered (fun n _ => deleteEvent_responds n) run
  | replace b => exact State.request_isAnswered (fun r _ => replaceEvent_responds r) run
  | readQueue b => exact State.request_isAnswered (fun r _ => readQueueEvent_responds r) run
  | readNext b => exact State.request_isAnswered (fun _ _ => readNextEvent_responds) run
  | logRead b => exact State.request_isAnswered (fun k _ => logReadEvent_responds k) run
  | logFree b => exact State.request_isAnswered (fun _ _ => (Does.store (.freed ..)).responds rfl) run
  | alertRead b => exact State.request_isAnswered (fun _ _ => .same rfl) run
  | alertAck b => exact State.request_isAnswered (fun m _ => alertAckEvent_responds m) run
  | forceRelease b => exact State.request_isAnswered (fun n _ => forceEvent_responds n) run
  | statusSpan b => exact State.request_isAnswered (fun _ _ => statusEvent_responds _) run
  | statusSections b => exact State.request_isAnswered (fun _ _ => statusEvent_responds _) run
  | statusStands b => exact State.request_isAnswered (fun _ _ => statusEvent_responds _) run
  | statusGangs b => exact State.request_isAnswered (fun _ _ => statusEvent_responds _) run
  | statusMode b => exact State.request_isAnswered (fun _ _ => statusEvent_responds _) run
  | powerOn | joinTimerExpiry | reportLimitExpiry | callDeadlineExpiry | checkInTimerExpiry | sensorLineChange
  | quayHaltChange | linkSilenceExpiry | interByteGapExpiry | quayClockAdvance | byteArrival | telegramSent => trivial
  | _ => exact State.request_isAnswered (fun n _ => recallEvent_responds n) run -- RECALL, whose name is a Mathlib keyword

theorem exec_answered {i : Instr} {s t : State} {p : PortId} {q : RequestType} (telegram : telegramOf i = some (p, q))
    (run : exec i s = .next t) : Answered p q s t := by
  have answered := exec_telegramAnswered run
  rwa [telegram] at answered

theorem exec_reaches_of_telegram {i : Instr} {s t : State} (telegram : (telegramOf i).isSome = true)
    (run : exec i s = .next t) : Reaches s t := by
  obtain ⟨⟨p, q⟩, named⟩ := Option.isSome_iff_exists.1 telegram
  exact (exec_answered named run).reaches

/-- Taking a telegram is running its command; what is no telegram changes nothing. -/
theorem takeTelegram_eq (i : Instr) (s : State) :
    takeTelegram i s = if (telegramOf i).isSome then exec i s else .next s := by
  cases i <;> rfl

theorem takeTelegram_reaches {i : Instr} {s t : State} (run : takeTelegram i s = .next t) : Reaches s t := by
  rw [takeTelegram_eq] at run
  split at run
  · exact exec_reaches_of_telegram ‹_› run
  · obtain rfl := Host.Outcome.next.inj run
    exact .refl

theorem execByteArrival_reaches {s t : State} {p : PortId} {byte : Byte} {stopError : Bool}
    (run : execByteArrival p byte stopError s = .next t) : Reaches s t := by
  have receiver : ∀ r, Reaches s (s.setReceiver p r) := fun r => Happens.reaches (.port (.receiver s p r))
  unfold execByteArrival at run
  split at run
  · exact Host.Outcome.next.inj run ▸ receiver _
  · split at run
    · exact Host.Outcome.next.inj run ▸ receiver _
    · split at run
      · exact (receiver _).trans (takeTelegram_reaches run)
      · exact Host.Outcome.next.inj run ▸ receiver _

/-- Every command reaches its next state by events. -/
theorem exec_reaches {i : Instr} {s t : State} (run : exec i s = .next t) : Reaches s t := by
  by_cases telegram : (telegramOf i).isSome = true
  · exact exec_reaches_of_telegram telegram run
  cases i with
  | powerOn h lines => exact Host.Outcome.next.inj run ▸ Happens.reaches (.setup (.poweredOn s h lines))
  | joinTimerExpiry c =>
    obtain rfl := Host.Outcome.next.inj run
    split
    · exact (Does.span (.joinAbandoned s c)).reaches
    · exact .refl
  | reportLimitExpiry c =>
    obtain rfl := Host.Outcome.next.inj run
    split
    · exact (Does.span (.reportsStopped ‹_›)).reaches
    · exact .refl
  | callDeadlineExpiry c l => exact (execCallDeadlineExpiry_does run).reaches
  | checkInTimerExpiry g => exact Host.Outcome.next.inj run ▸ (Does.gang (.supervised s g)).reaches
  | sensorLineChange k level => exact (Does.span (.lineChanged run)).reaches
  | quayHaltChange level => exact Host.Outcome.next.inj run ▸ (Does.span (.haltChanged s level)).reaches
  | linkSilenceExpiry p => exact execLinkSilenceExpiry_reaches run
  | interByteGapExpiry p => exact Host.Outcome.next.inj run ▸ Happens.reaches (.port (.receiver s p .hunt))
  | quayClockAdvance => exact Host.Outcome.next.inj run ▸ Happens.reaches (.port (.clock s))
  | byteArrival p byte stopError => exact execByteArrival_reaches run
  | telegramSent p =>
    obtain rfl := Host.Outcome.next.inj run
    split
    · exact Happens.reaches (.port (.telegramSent s p ‹_›))
    · exact .refl
  | _ => exact absurd rfl telegram

/-- What no event breaks and what does not speak of the commands that wait, a step keeps. -/
theorem step_keeps {P : State → Prop} (pending : ∀ s q, P s → P { s with pending := q })
    (keeps : ∀ s t, P s → Happens s t → P t) {s t : State} (hs : P s) (run : step s = .next t) : P t := by
  unfold step at run
  split at run
  · exact Host.Outcome.next.inj run ▸ hs
  · exact (exec_reaches run).keeps keeps (pending _ _ hs)

end Sys2Proof.Machine

namespace Sys2Proof.Machine

/-! ### What the evaluation of a crane reads -/

/-- The items of the configuration that an evaluation reads (R41, R62). -/
structure SameSpanItems (a b : ConfigSet) : Prop where
  fitted : b.fitted = a.fitted
  park : b.park = a.park
  limits : b.westLimit = a.westLimit ∧ b.eastLimit = a.eastLimit
  clearance : b.clearance = a.clearance
  startMargin : b.startMargin = a.startMargin
  near : b.nearDistance = a.nearDistance ∧ b.hysteresis = a.hysteresis
  creepSpeed : b.creepSpeed = a.creepSpeed
  modes : b.sensorModes = a.sensorModes

theorem SameSpanItems.rfl {a : ConfigSet} : SameSpanItems a a := by constructor <;> simp

theorem spanItemsDiffer_eq_false {a b : ConfigSet} (h : spanItemsDiffer a b = false) : SameSpanItems a b := by
  simp only [spanItemsDiffer, Bool.or_eq_false_iff, bne_eq_false_iff_eq] at h
  constructor <;> simp_all

section Items

variable {a b : ConfigSet} (h : SameSpanItems a b)

include h

theorem SameSpanItems.isFitted (c : Slot) : b.isFitted c = a.isFitted c := by
  simp only [ConfigSet.isFitted, h.fitted]

theorem SameSpanItems.neighbours (c : Slot) :
    b.eastNeighbour c = a.eastNeighbour c ∧ b.westNeighbour c = a.westNeighbour c ∧ b.pairEast c = a.pairEast c := by
  simp only [ConfigSet.eastNeighbour, ConfigSet.westNeighbour, ConfigSet.pairEast, h.isFitted, and_self]

theorem SameSpanItems.serves (k : LineNo) : b.serves k = a.serves k := by
  simp only [ConfigSet.serves, h.isFitted, h.modes]

theorem SameSpanItems.watchAfter (o : Option Watch) (g : Int) : watchAfter b o g = watchAfter a o g := by
  simp only [Machine.watchAfter, h.near]

end Items

/-- What the evaluation of a crane and of its neighbours reads of one slot (R41). -/
structure SameCrane (s u : State) (d : Slot) : Prop where
  geometry : u.geometry d = s.geometry d
  position : u.positionUsed d = s.positionUsed d
  uncertain : u.uncertain d = s.uncertain d
  velocity : (u.crane d).lastVelocity = (s.crane d).lastVelocity
  active : ((u.crane d).slotState == .active) = ((s.crane d).slotState == .active)
  goal : (u.spanOf d).goal = (s.spanOf d).goal
  idle : (u.flight d).isNone = (s.flight d).isNone

/-- A slot whose record, override, goal and flight stand is the same to an evaluation. -/
theorem SameCrane.of_records {s u : State} {d : Slot} (park : u.config.park = s.config.park)
    (override : u.override d = s.override d) (crane : u.crane d = s.crane d)
    (goal : (u.spanOf d).goal = (s.spanOf d).goal) (idle : (u.flight d).isNone = (s.flight d).isNone) :
    SameCrane s u d := by
  constructor <;>
    simp only [State.geometry, State.positionUsed, State.uncertain, override, crane, park, goal, idle]

/-- What an evaluation reads of the whole part (R41). -/
structure SamePart (s u : State) : Prop where
  items : SameSpanItems s.config u.config
  mode : u.mode = s.mode
  halted : u.halted = s.halted
  watch : ∀ w, u.watch w = s.watch w

/-- The evaluation of a slot gives the same. -/
structure SameView (s u : State) (d : Slot) : Prop where
  bounds : u.bounds d = s.bounds d
  mark : u.emptyMarkNow d = s.emptyMarkNow d
  east : ∀ w, u.eastCondition d w = s.eastCondition d w
  west : ∀ w, u.westCondition d w = s.westCondition d w

section SameView

variable {s u : State} {d e b : Slot}

theorem SamePart.east (h : SamePart s u) (c : Slot) : u.east c = s.east c := (h.items.neighbours c).1

theorem SamePart.west (h : SamePart s u) (c : Slot) : u.west c = s.west c := (h.items.neighbours c).2.1

theorem SamePart.fitted (h : SamePart s u) (c : Slot) : u.fitted c = s.fitted c := h.items.isFitted c

theorem SameCrane.faces (h : SameCrane s u d) : u.westFace d = s.westFace d ∧ u.eastFace d = s.eastFace d ∧
    u.towardWest d = s.towardWest d ∧ u.towardEast d = s.towardEast d := by
  simp only [State.westFace, State.eastFace, State.rangeWest, State.rangeEast, State.widening, State.towardWest,
    State.towardEast, h.goal, h.position, h.uncertain, h.geometry, h.velocity, and_self]

theorem SameCrane.gap (h : SameCrane s u d) (k : SameCrane s u e) : u.gap d e = s.gap d e := by
  simp only [State.gap, h.position, h.geometry, k.position, k.geometry]

theorem SameCrane.bounds (part : SamePart s u) (own : SameCrane s u d)
    (eastOf : ∀ e, s.east d = some e → SameCrane s u e) (westOf : ∀ b, s.west d = some b → SameCrane s u b) :
    u.bounds d = s.bounds d := by
  have hi : u.eastBound d = s.eastBound d := by
    unfold State.eastBound
    rw [part.east]
    cases h : s.east d with
    | none => simp only [part.items.limits, own.geometry]
    | some e =>
      obtain ⟨face, -, toward, -⟩ := (eastOf e h).faces
      simp only [face, toward, (eastOf e h).geometry, own.geometry, part.items.clearance]
  have lo : u.westBound d = s.westBound d := by
    unfold State.westBound
    rw [part.west]
    cases h : s.west d with
    | none => simp only [part.items.limits, own.geometry]
    | some b =>
      obtain ⟨-, face, -, toward⟩ := (westOf b h).faces
      simp only [face, toward, (westOf b h).geometry, own.geometry, part.items.clearance]
  rw [State.bounds, State.bounds, hi, lo]

theorem SameCrane.view (part : SamePart s u) (own : SameCrane s u d)
    (eastOf : ∀ e, s.east d = some e → SameCrane s u e) (westOf : ∀ b, s.west d = some b → SameCrane s u b)
    (trips : u.trippedEast d = s.trippedEast d ∧ u.trippedWest d = s.trippedWest d) : SameView s u d := by
  have bounds := own.bounds part eastOf westOf
  obtain ⟨tripEast, tripWest⟩ := trips
  refine ⟨bounds, ?_, fun w => ?_, fun w => ?_⟩
  · simp only [State.emptyMarkNow, part.mode, bounds, own.active]
  · simp only [State.eastCondition, State.mayTravel, State.eastNear, part.mode, part.halted, part.east, part.watch,
      part.items.startMargin, part.items.creepSpeed, own.velocity, own.active, own.idle, own.position, own.geometry,
      tripEast]
  · simp only [State.westCondition, State.mayTravel, State.westNear, part.mode, part.halted, part.west, part.watch,
      part.items.startMargin, part.items.creepSpeed, own.velocity, own.active, own.idle, own.position, own.geometry,
      tripWest]

end SameView

/-! ### A re-evaluation settles the span (R41, R51) -/

/-- Settled but for the cranes named, which a re-evaluation is to settle. -/
structure SettledBut (cs : List Slot) (u : State) : Prop where
  window : ∀ d, d ∉ cs → u.fitted d = true → (u.spanOf d).window = some (u.bounds d)
  east : ∀ d, d ∉ cs → u.fitted d = true → (u.spanOf d).eastPermit = u.eastCondition d (u.bounds d)
  west : ∀ d, d ∉ cs → u.fitted d = true → (u.spanOf d).westPermit = u.westCondition d (u.bounds d)
  mark : ∀ d, d ∉ cs → u.fitted d = true → (u.spanOf d).emptyMark = u.emptyMarkNow d
  unfitted : ∀ d, u.fitted d = false → u.spanOf d = SpanRecord.reset
  pair : ∀ w e, u.config.pairEast w = some e → w ∉ cs ∨ e ∉ cs →
    u.watch w = some (watchAfter u.config (u.watch w) (u.gap w e))
  noPair : ∀ w, u.config.pairEast w = none → u.watch w = none

theorem settledBut_nil {u : State} : SettledBut [] u ↔ SpanSettled u := by
  constructor
  · rintro ⟨window, east, west, mark, unfitted, pair, noPair⟩
    exact ⟨fun c => window c (by simp), fun c => east c (by simp), fun c => west c (by simp),
      fun c => mark c (by simp), unfitted, fun w e h => pair w e h (by simp), noPair⟩
  · rintro ⟨window, east, west, mark, unfitted, pair, noPair⟩
    exact ⟨fun c _ => window c, fun c _ => east c, fun c _ => west c, fun c _ => mark c, unfitted,
      fun w e h _ => pair w e h, noPair⟩

/-- A watch state computed twice from one gap is computed once (R51). -/
theorem watchAfter_watchAfter (cfg : ConfigSet) (o : Option Watch) (g : Int) :
    watchAfter cfg (some (watchAfter cfg o g)) g = watchAfter cfg o g := by
  have apart : (cfg.nearDistance : Int) + cfg.hysteresis ≤ g → ¬ g < cfg.nearDistance := by omega
  by_cases near : g < cfg.nearDistance
  · have within : ¬ (cfg.nearDistance : Int) + cfg.hysteresis ≤ g := fun h => apart h near
    rcases o with _ | _ | _ <;> simp [watchAfter, near, within]
  · by_cases far : (cfg.nearDistance : Int) + cfg.hysteresis ≤ g
    · rcases o with _ | _ | _ <;> simp [watchAfter, near, far]
    · rcases o with _ | _ | _ <;> simp [watchAfter, near, far]

/-- A pair is a fitted slot and its east neighbour (R7). -/
theorem State.pairEast_eq_some {s : State} {w e : Slot} :
    s.config.pairEast w = some e ↔ s.fitted w = true ∧ s.east w = some e := by
  rw [ConfigSet.pairEast]
  by_cases h : s.config.isFitted w = true <;> simp [h, State.fitted, State.east]

/-- Both cranes of a pair are fitted, and each is the other's neighbour (R7). -/
theorem State.pairEast_spec {s : State} {w e : Slot} (h : s.config.pairEast w = some e) :
    s.fitted w = true ∧ s.fitted e = true ∧ s.east w = some e ∧ s.west e = some w := by
  obtain ⟨hw, east⟩ := State.pairEast_eq_some.1 h
  obtain ⟨after, he, between⟩ := (s.east_eq_some w e).1 east
  exact ⟨hw, he, east, (s.west_eq_some e w).2 ⟨after, hw, between⟩⟩

section Reevaluate

variable {u : State} {cs : List Slot}

/-- A pair none or one of whose cranes is not re-evaluated keeps its watch state. -/
theorem SettledBut.watch_kept (h : SettledBut cs u) {w e : Slot} (pair : u.config.pairEast w = some e)
    (out : w ∉ cs ∨ e ∉ cs) : (u.reevaluate cs).watch w = u.watch w := by
  rw [State.reevaluate_watch, pair]
  dsimp only
  split
  · exact (h.pair w e pair out).symm
  · rfl

theorem SettledBut.eastNear_kept (h : SettledBut cs u) {d : Slot} (out : d ∉ cs) (fitted : u.fitted d = true) :
    (u.reevaluate cs).eastNear d = u.eastNear d := by
  have neighbour : (u.reevaluate cs).east d = u.east d := by rw [State.east, State.reevaluate_config]; rfl
  rw [State.eastNear, State.eastNear, neighbour]
  cases he : u.east d with
  | none => rfl
  | some e =>
    rw [h.watch_kept (State.pairEast_eq_some.2 ⟨fitted, he⟩) (.inl out)]

/-- A crane's west neighbour and the crane are a pair (R7). -/
theorem State.pairEast_of_west {d b : Slot} (fitted : u.fitted d = true) (h : u.west d = some b) :
    u.config.pairEast b = some d := by
  obtain ⟨before, hb, between⟩ := (u.west_eq_some d b).1 h
  exact State.pairEast_eq_some.2 ⟨hb, (u.east_eq_some b d).2 ⟨before, fitted, between⟩⟩

theorem SettledBut.westNear_kept (h : SettledBut cs u) {d : Slot} (out : d ∉ cs) (fitted : u.fitted d = true) :
    (u.reevaluate cs).westNear d = u.westNear d := by
  have neighbour : (u.reevaluate cs).west d = u.west d := by rw [State.west, State.reevaluate_config]; rfl
  rw [State.westNear, State.westNear, neighbour]
  cases hb : u.west d with
  | none => rfl
  | some b =>
    dsimp only
    rw [h.watch_kept (State.pairEast_of_west fitted hb) (.inr out)]

theorem State.reevaluate_bounds (d : Slot) : (u.reevaluate cs).bounds d = u.bounds d :=
  (u.reevaluate_sameInputs cs).bounds d

theorem State.reevaluate_emptyMarkNow (d : Slot) : (u.reevaluate cs).emptyMarkNow d = u.emptyMarkNow d := by
  simp only [State.emptyMarkNow, State.reevaluate_bounds, State.crane, State.reevaluate_mode,
    State.reevaluate_cranes]

/-- The conditions of a crane that is not named stand through a re-evaluation. -/
theorem SettledBut.conditions_kept (h : SettledBut cs u) {d : Slot} (out : d ∉ cs) (fitted : u.fitted d = true)
    (x : Window) : (u.reevaluate cs).eastCondition d x = u.eastCondition d x ∧
      (u.reevaluate cs).westCondition d x = u.westCondition d x := by
  simp only [State.eastCondition, State.westCondition, State.mayTravel, State.trippedEast, State.trippedWest,
    State.tripped, State.positionUsed, State.geometry, State.override, State.crane, State.flight,
    h.eastNear_kept out fitted, h.westNear_kept out fitted, State.reevaluate_mode, State.reevaluate_halted,
    State.reevaluate_cranes, State.reevaluate_config, State.reevaluate_overrides, State.reevaluate_flights,
    State.reevaluate_sensorLevels, State.reevaluate_latches]
  exact ⟨rfl, rfl⟩

/-- A re-evaluation of the cranes that are not settled settles them all (R41). -/
theorem SettledBut.reevaluate (h : SettledBut cs u) : SpanSettled (u.reevaluate cs) := by
  have kept : ∀ d, d ∉ cs → (u.reevaluate cs).spanOf d = u.spanOf d := fun d out => by
    rw [State.reevaluate_spanOf, if_neg fun there => out there.1]
  have now : ∀ d, d ∈ cs → u.fitted d = true → (u.reevaluate cs).spanOf d = (u.reevaluate cs).evaluated d :=
    fun d => State.reevaluate_spanOf_named u cs
  constructor
  case window =>
    intro d fitted
    rw [State.reevaluate_fitted] at fitted
    by_cases named : d ∈ cs
    · rw [now d named fitted]; rfl
    · rw [kept d named, h.window d named fitted, State.reevaluate_bounds]
  case east =>
    intro d fitted
    rw [State.reevaluate_fitted] at fitted
    by_cases named : d ∈ cs
    · rw [now d named fitted]; rfl
    · rw [kept d named, h.east d named fitted, State.reevaluate_bounds, (h.conditions_kept named fitted _).1]
  case west =>
    intro d fitted
    rw [State.reevaluate_fitted] at fitted
    by_cases named : d ∈ cs
    · rw [now d named fitted]; rfl
    · rw [kept d named, h.west d named fitted, State.reevaluate_bounds, (h.conditions_kept named fitted _).2]
  case mark =>
    intro d fitted
    rw [State.reevaluate_fitted] at fitted
    by_cases named : d ∈ cs
    · rw [now d named fitted]; rfl
    · rw [kept d named, h.mark d named fitted, State.reevaluate_emptyMarkNow]
  case unfitted =>
    intro d fitted
    rw [State.reevaluate_fitted] at fitted
    rw [State.reevaluate_spanOf, if_neg (by simp [fitted]), h.unfitted d fitted]
  case pair =>
    intro w e pair
    have gap : (u.reevaluate cs).gap w e = u.gap w e := by
      simp only [State.gap, State.positionUsed, State.geometry, State.override, State.crane, State.reevaluate_cranes,
        State.reevaluate_overrides, State.reevaluate_config]
    rw [State.reevaluate_config] at pair ⊢
    rw [gap]
    by_cases both : w ∉ cs ∨ e ∉ cs
    · rw [h.watch_kept pair both, ← h.pair w e pair both]
    · have named : w ∈ cs ∨ e ∈ cs := .inl (Classical.byContradiction fun out => both (.inl out))
      rw [State.reevaluate_watch, pair]
      simp only [if_pos named, watchAfter_watchAfter]
  case noPair =>
    intro w pair
    rw [State.reevaluate_config] at pair
    rw [State.reevaluate_watch, pair]
    exact h.noPair w pair

/-- Where every fitted crane is re-evaluated, only what an unfitted slot and no pair hold is to be known before. -/
theorem SettledBut.all (named : ∀ d, u.fitted d = true → d ∈ cs)
    (unfitted : ∀ d, u.fitted d = false → u.spanOf d = SpanRecord.reset)
    (noPair : ∀ w, u.config.pairEast w = none → u.watch w = none) : SettledBut cs u where
  window d out fitted := absurd (named d fitted) out
  east d out fitted := absurd (named d fitted) out
  west d out fitted := absurd (named d fitted) out
  mark d out fitted := absurd (named d fitted) out
  unfitted := unfitted
  pair w e pair out := by
    obtain ⟨hw, he, -, -⟩ := State.pairEast_spec pair
    exact (out.elim (· (named w hw)) (· (named e he))).elim
  noPair := noPair

theorem State.mem_fittedSlots (d : Slot) : d ∈ u.fittedSlots ↔ u.fitted d = true := by
  simp [State.fittedSlots]

end Reevaluate

/-! ### A settled state after a change of what evaluations read -/

/-- A state changed in what an evaluation reads of some cranes only is settled but for cranes that see none other. -/
theorem SpanSettled.settledBut {s u : State} (hs : SpanSettled s) (part : SamePart s u) {cs : List Slot}
    (record : ∀ d, d ∉ cs ∨ s.fitted d = false → u.spanOf d = s.spanOf d)
    (view : ∀ d, d ∉ cs → s.fitted d = true → SameView s u d)
    (gap : ∀ w e, s.config.pairEast w = some e → w ∉ cs ∨ e ∉ cs → u.gap w e = s.gap w e) : SettledBut cs u := by
  have pairEast : ∀ w, u.config.pairEast w = s.config.pairEast w := fun w => (part.items.neighbours w).2.2
  constructor
  case window =>
    intro d out fitted
    rw [part.fitted] at fitted
    rw [record d (.inl out), (view d out fitted).bounds, hs.window d fitted]
  case east =>
    intro d out fitted
    rw [part.fitted] at fitted
    rw [record d (.inl out), (view d out fitted).bounds, (view d out fitted).east, hs.east d fitted]
  case west =>
    intro d out fitted
    rw [part.fitted] at fitted
    rw [record d (.inl out), (view d out fitted).bounds, (view d out fitted).west, hs.west d fitted]
  case mark =>
    intro d out fitted
    rw [part.fitted] at fitted
    rw [record d (.inl out), (view d out fitted).mark, hs.mark d fitted]
  case unfitted =>
    intro d fitted
    rw [part.fitted] at fitted
    rw [record d (.inr fitted), hs.unfitted d fitted]
  case pair =>
    intro w e pair out
    rw [pairEast] at pair
    rw [part.watch, gap w e pair out, part.items.watchAfter, ← hs.pair w e pair]
  case noPair =>
    intro w pair
    rw [pairEast] at pair
    rw [part.watch, hs.noPair w pair]

/-- Nothing changed of what evaluations read: still settled. -/
theorem SpanSettled.of_same {s u : State} (hs : SpanSettled s) (part : SamePart s u)
    (span : ∀ d, u.spanOf d = s.spanOf d) (cranes : ∀ d, SameCrane s u d)
    (tripped : ∀ k, u.tripped k = s.tripped k) : SpanSettled u := by
  refine settledBut_nil.1 (hs.settledBut part (fun d _ => span d) (fun d _ _ => ?_) fun w e _ _ => ?_)
  · refine (cranes d).view part (fun e _ => cranes e) (fun b _ => cranes b) ⟨?_, ?_⟩ <;>
      simp only [State.trippedEast, State.trippedWest, tripped]
  · exact (cranes w).gap (cranes e)

/-- Only one crane changed in what evaluations read: settled but for that crane and its neighbours (R41). -/
theorem SpanSettled.settledBut_concern {s u : State} (hs : SpanSettled s) (part : SamePart s u) (c : Slot)
    (others : ∀ d, d ≠ c → SameCrane s u d) (record : ∀ d, d ≠ c → u.spanOf d = s.spanOf d)
    (own : s.fitted c = false → u.spanOf c = s.spanOf c) (tripped : ∀ k, u.tripped k = s.tripped k) :
    SettledBut (s.concern c) u := by
  have away : ∀ d, d ∉ s.concern c → s.fitted d = true → d ≠ c ∧ s.east d ≠ some c ∧ s.west d ≠ some c := by
    intro d out fitted
    unfold State.concern at out
    have eastward : s.east d = some c → s.fitted c = true ∧ s.west c = some d := fun h => by
      obtain ⟨after, hc, between⟩ := (s.east_eq_some d c).1 h
      exact ⟨hc, (s.west_eq_some c d).2 ⟨after, fitted, between⟩⟩
    have westward : s.west d = some c → s.fitted c = true ∧ s.east c = some d := fun h => by
      obtain ⟨before, hc, between⟩ := (s.west_eq_some d c).1 h
      exact ⟨hc, (s.east_eq_some c d).2 ⟨before, fitted, between⟩⟩
    refine ⟨?_, fun h => ?_, fun h => ?_⟩
    · rintro rfl
      simp [fitted] at out
    · obtain ⟨hc, h⟩ := eastward h
      simp [hc, h] at out
    · obtain ⟨hc, h⟩ := westward h
      simp [hc, h] at out
  refine hs.settledBut part (fun d h => ?_) (fun d out fitted => ?_) fun w e pair out => ?_
  · by_cases hd : d = c
    · subst hd
      refine own ?_
      cases fitted : s.fitted d with
      | false => rfl
      | true => simp [State.concern, fitted] at h
    · exact record d hd
  · obtain ⟨hd, he, hb⟩ := away d out fitted
    refine (others d hd).view part (fun e h => others e ?_) (fun b h => others b ?_) ⟨?_, ?_⟩
    · rintro rfl; exact he h
    · rintro rfl; exact hb h
    · simp only [State.trippedEast, tripped]
    · simp only [State.trippedWest, tripped]
  · obtain ⟨hw, he, east, west⟩ := State.pairEast_spec pair
    obtain h | h := out
    · obtain ⟨ww, we, -⟩ := away w h hw
      exact (others w ww).gap (others e fun eq => we (eq ▸ east))
    · obtain ⟨ee, -, ew⟩ := away e h he
      exact (others w fun eq => ew (eq ▸ west)).gap (others e ee)

end Sys2Proof.Machine

namespace Sys2Proof.Machine

/-! ### What truck events leave of a group -/

/-- What stays the same of a group from its TAKE to its end (Table 7.1). -/
def Flight.group (f : Flight) : Nat × Option Nat × Job × Footprint := (f.first, f.second, f.job, f.footprint)

theorem Flight.tags_of_group {f g : Flight} (h : f.group = g.group) : f.tags = g.tags := by
  obtain ⟨first, second, -, -⟩ : f.first = g.first ∧ f.second = g.second ∧ f.job = g.job ∧ f.footprint = g.footprint := by
    simpa [Flight.group] using h
  rw [Flight.tags, Flight.tags, first, second]

/-- A group in flight whose other fields change is the same group in flight. -/
theorem State.setFlight_group {s : State} {c : Slot} {f g : Flight} (lift : s.flight c = some f)
    (same : g.group = f.group) (d : Slot) :
    ((s.setFlight c (some g)).flight d).map Flight.group = (s.flight d).map Flight.group := by
  rw [State.flight_setFlight]
  split
  · next h => rw [h, lift, Option.map_some, Option.map_some, same]
  · rfl

theorem State.attempt_group (s : State) (c d : Slot) :
    ((s.attempt c).flight d).map Flight.group = (s.flight d).map Flight.group := by
  obtain h | ⟨f, m, rest, l, lift, -, -, -, -, h⟩ := s.attempt_cases c
  · rw [h]
  · rw [h, State.makeCall, State.send_flight]
    exact State.setFlight_group lift (by rfl) d

/-- A truck event leaves every group in flight in flight, and the same group. -/
theorem TruckEvent.groups {s t : State} (h : TruckEvent s t) (d : Slot) :
    (t.flight d).map Flight.group = (s.flight d).map Flight.group := by
  cases h with
  | locked lift => exact State.setFlight_group lift (by rfl) d
  | @lifted c f lift =>
    have same : f.lifted.group = f.group := by unfold Flight.lifted; split <;> rfl
    unfold State.liftGroup
    dsimp only
    split
    · rw [State.releaseTruck_flight]; exact State.setFlight_group lift same d
    · exact State.setFlight_group lift same d
  | attempted c => exact s.attempt_group c d
  | opened => rfl
  | @closed c l called =>
    have kept : (s.cancelStand c l).flight d = s.flight d := by rw [State.cancelStand_only]; rfl
    unfold State.closeCall
    dsimp only
    split
    · next f lift =>
      have lift' : (s.cancelStand c l).flight c = some f := by rw [State.cancelStand_only]; exact lift
      rw [State.setFlight_group (g := { f with truck := .pending, lane := none, truckId := none }) lift' rfl, kept]
    · rw [kept]
  | arrived =>
    unfold State.takeArrival
    dsimp only
    split
    · next lift => rw [State.send_flight]; exact State.setFlight_group lift (by rfl) d
    · rfl
  | recalled busy lift => exact State.setFlight_group lift (by rfl) d
  | failed n busy lift =>
    rw [State.failTruck, State.raise_flight, State.send_flight]
    exact State.setFlight_group lift (by rfl) d
  | unserved => rfl
  | freed => rfl
  | restarted lift => exact State.setFlight_group lift (by rfl) d

theorem TruckEvent.lifts {s t : State} (h : TruckEvent s t) (d : Slot) :
    (t.flight d).isSome = (s.flight d).isSome := by
  simpa using congrArg Option.isSome (h.groups d)

/-! ### Events that change no input of an evaluation -/

theorem SameInputs.part {s t : State} (h : SameInputs s t) (watches : t.watches = s.watches) : SamePart s t where
  items := h.config ▸ SameSpanItems.rfl
  mode := h.mode
  halted := h.halted
  watch w := by simp only [State.watch, watches]

theorem SameInputs.crane {s t : State} (h : SameInputs s t) (d : Slot) : SameCrane s t d :=
  SameCrane.of_records (by rw [h.config]) (by simp only [State.override, h.overrides])
    (by simp only [State.crane, h.cranes]) (h.goal d) (by rw [← Option.not_isSome, h.flight, Option.not_isSome])

theorem SpanSettled.of_sameInputs {s t : State} (hs : SpanSettled s) (h : SameInputs s t) (span : t.span = s.span)
    (watches : t.watches = s.watches) : SpanSettled t :=
  hs.of_same (h.part watches) (fun d => by simp only [State.spanOf, span]) h.crane
    fun k => by simp only [State.tripped, h.config, h.sensors]

theorem PortEvent.sameInputs {s t : State} (h : PortEvent s t) : SameInputs s t := by
  rw [h.only]; constructor <;> simp [State.flight, State.spanOf]

theorem GangEvent.sameInputs {s t : State} (h : GangEvent s t) : SameInputs s t := by
  rw [h.only]; constructor <;> simp [State.flight, State.spanOf]

theorem BerthEvent.sameInputs {s t : State} (h : BerthEvent s t) : SameInputs s t := by
  rw [h.only]; constructor <;> simp [State.flight, State.spanOf]

theorem StoreEvent.sameInputs {s t : State} (h : StoreEvent s t) : SameInputs s t := by
  rw [h.only]; constructor <;> simp [State.flight, State.spanOf]

theorem TruckEvent.sameInputs {s t : State} (h : TruckEvent s t) : SameInputs s t := by
  have lifts := h.lifts
  rw [h.only] at lifts ⊢
  exact ⟨rfl, rfl, rfl, rfl, rfl, lifts, fun _ => rfl, rfl, rfl⟩

/-! ### Events that change one crane, re-evaluated with its neighbours -/

/-- Of what evaluations read, only what they read of one crane is changed. -/
structure ChangesCrane (c : Slot) (s u : State) : Prop where
  config : u.config = s.config
  mode : u.mode = s.mode
  halted : u.halted = s.halted
  watches : u.watches = s.watches
  sensors : u.sensorLevels = s.sensorLevels ∧ u.latches = s.latches
  override : ∀ d, d ≠ c → u.override d = s.override d
  crane : ∀ d, d ≠ c → u.crane d = s.crane d
  span : ∀ d, d ≠ c → u.spanOf d = s.spanOf d
  flight : ∀ d, d ≠ c → u.flight d = s.flight d
  own : s.fitted c = false → s.spanOf c = SpanRecord.reset → u.spanOf c = SpanRecord.reset

theorem SpanSettled.reevaluate_concern {s u : State} {c : Slot} (hs : SpanSettled s) (h : ChangesCrane c s u) :
    SpanSettled (u.reevaluate (s.concern c)) := by
  refine SettledBut.reevaluate (hs.settledBut_concern ⟨h.config ▸ SameSpanItems.rfl, h.mode, h.halted, ?_⟩ c
    (fun d hd => ?_) h.span (fun fitted => ?_) fun k => ?_)
  · exact fun w => by simp only [State.watch, h.watches]
  · exact SameCrane.of_records (by rw [h.config]) (h.override d hd) (h.crane d hd) (by rw [h.span d hd])
      (by rw [h.flight d hd])
  · rw [h.own fitted (hs.unfitted c fitted), hs.unfitted c fitted]
  · simp only [State.tripped, h.config, h.sensors]

section Local

variable {s : State} {c : Slot}

theorem State.setCrane_self (s : State) (c : Slot) : s.setCrane c (s.crane c) = s := by
  rw [State.setCrane, State.crane, put_entry]

theorem changesCrane_setCrane (r : CraneRecord) : ChangesCrane c s (s.setCrane c r) := by
  constructor <;> intros <;> simp_all [State.crane_setCrane]

theorem changesCrane_clearGoal (r : CraneRecord) : ChangesCrane c s ((s.setCrane c r).clearGoal c) := by
  constructor <;> intros <;>
    simp_all [State.clearGoal, State.spanOf_setSpan, SpanRecord.reset, State.crane, entry_put]

theorem changesCrane_goalCleared : ChangesCrane c s (s.clearGoal c) := by
  simpa only [State.setCrane_self] using changesCrane_clearGoal (s := s) (c := c) (s.crane c)

theorem ChangesCrane.raise {u : State} (h : ChangesCrane c s u) (a : Alert) (d : AlertDetail) :
    ChangesCrane c s (u.raise a d) := by
  obtain ⟨config, mode, halted, watches, sensors, override, crane, span, flight, own⟩ := h
  constructor <;> simpa [State.override, State.crane, State.spanOf, State.flight]

theorem changesCrane_override (o : Option Geometry) :
    ChangesCrane c s { s with overrides := put s.overrides c o } := by
  constructor <;> intros <;> simp_all [State.override, entry_put, State.crane, State.spanOf, State.flight]

theorem changesCrane_endFlight (r : CraneRecord) : ChangesCrane c s ((s.setFlight c none).setCrane c r) := by
  constructor <;> intros <;> simp_all [State.flight_setFlight, State.crane, entry_put]

end Local

/-- A goal stored on a fitted crane. -/
theorem changesCrane_setSpan {s : State} {c : Slot} (r : SpanRecord) (fitted : s.fitted c = true) :
    ChangesCrane c s (s.setSpan c r) := by
  constructor <;> intros <;> simp_all [State.spanOf_setSpan, State.crane]

theorem ChangesCrane.trans {s t u : State} {c : Slot} (h : ChangesCrane c s t) (k : ChangesCrane c t u) :
    ChangesCrane c s u := by
  have fitted : t.fitted c = s.fitted c := by rw [State.fitted, State.fitted, h.config]
  constructor <;> intros <;> simp_all only [h.config, k.config, h.mode, k.mode, h.halted, k.halted, h.watches,
    k.watches, h.sensors, k.sensors, h.override, k.override, h.crane, k.crane, h.span, k.span, h.flight, k.flight,
    h.own, k.own, ne_eq, not_false_eq_true, and_self]

theorem State.arriveAtGoal_changes (s : State) (c : Slot) (n : Nat) : ChangesCrane c s (s.arriveAtGoal c n) := by
  have same : ChangesCrane c s s := by constructor <;> simp
  unfold State.arriveAtGoal
  split
  · split
    · exact changesCrane_goalCleared
    · exact same
  · exact same

theorem State.concern_of_config {s u : State} (h : u.config = s.config) (c : Slot) : u.concern c = s.concern c := by
  unfold State.concern State.fitted State.west State.east
  rw [h]

/-! ### The span events -/

section SpanEvents

variable {s : State} {c : Slot} (hs : SpanSettled s)

include hs

theorem SpanSettled.abandonJoin : SpanSettled (s.abandonJoin c) := by
  unfold State.abandonJoin
  split
  · exact hs.reevaluate_concern (changesCrane_setCrane _)
  · exact hs

theorem SpanSettled.storePage {j k : Join} (joining : (s.crane c).slotState = .joining j) :
    SpanSettled (s.storePage c k) := by
  refine hs.of_same ⟨SameSpanItems.rfl, rfl, rfl, fun _ => rfl⟩ (fun _ => rfl) (fun d => ?_) fun _ => rfl
  have crane : (s.storePage c k).crane d = if d = c then
      { s.crane c with slotState := .joining k, joinTimer := some s.config.joinTimer } else s.crane d :=
    State.crane_setCrane ..
  by_cases h : d = c
  · subst h
    rw [if_pos rfl] at crane
    exact {
      geometry := by simp only [State.geometry, crane]; rfl
      position := by simp only [State.positionUsed, crane]; rfl
      uncertain := by simp only [State.uncertain, crane, joining]; rfl
      velocity := by rw [crane]
      active := by rw [crane, joining]; rfl
      goal := rfl
      idle := rfl }
  · rw [if_neg h] at crane
    exact SameCrane.of_records rfl rfl crane rfl rfl

theorem SpanSettled.takePosition (r : PositionReport) : SpanSettled (s.takePosition c r) := by
  unfold State.takePosition
  have drift : ∀ u : State, ChangesCrane c u (u.checkDrift c r.position) := fun u => by
    have same : ChangesCrane c u u := by constructor <;> simp
    unfold State.checkDrift
    split
    · split
      · exact (changesCrane_setCrane _).raise _ _
      · exact same
    · exact same
  have changes : ChangesCrane c s (((s.storePosition c r).arriveAtGoal c r.position).checkDrift c r.position) :=
    ((changesCrane_setCrane _).trans (State.arriveAtGoal_changes ..)).trans (drift _)
  have concern : (((s.storePosition c r).arriveAtGoal c r.position).checkDrift c r.position).concern c =
      s.concern c := State.concern_of_config changes.config c
  dsimp only
  rw [concern]
  exact hs.reevaluate_concern changes

theorem SpanSettled.cancelGoal : SpanSettled (s.cancelGoal c) := by
  unfold State.cancelGoal
  split
  · exact hs.reevaluate_concern (changesCrane_goalCleared)
  · exact hs

theorem SpanSettled.raise (a : Alert) (d : AlertDetail) : SpanSettled (s.raise a d) :=
  hs.of_sameInputs (by constructor <;> simp) (by simp) (by simp)

theorem SpanSettled.raiseTrips (ks : List LineNo) : SpanSettled (s.raiseTrips ks) := by
  rw [State.raiseTrips_only]
  exact hs.of_sameInputs (by constructor <;> simp [State.flight, State.spanOf]) rfl rfl

end SpanEvents

end Sys2Proof.Machine

namespace Sys2Proof.Machine

/-- Where every fitted crane is re-evaluated, the span is settled (R41). -/
theorem spanSettled_reevaluate (u : State) (unfitted : ∀ d, u.fitted d = false → u.spanOf d = SpanRecord.reset)
    (noPair : ∀ w, u.config.pairEast w = none → u.watch w = none) : SpanSettled (u.reevaluate u.fittedSlots) :=
  (SettledBut.all (fun d => (State.mem_fittedSlots d).2) unfitted noPair).reevaluate

/-! ### Lines and the halt (R54 to R59) -/

section Lines

variable {s u : State} (hs : SpanSettled s)

include hs

/-- Only trips changed: settled but for the cranes of those lines. -/
theorem SpanSettled.settledBut_lines {cs : List Slot} (h : u =
      { s with sensorLevels := u.sensorLevels, latches := u.latches, alerts := u.alerts, attn := u.attn })
    (trips : ∀ j, lineWest j ∉ cs ∨ lineEast j ∉ cs → u.tripped j = s.tripped j) : SettledBut cs u := by
  have part : SamePart s u := by rw [h]; exact ⟨SameSpanItems.rfl, rfl, rfl, fun _ => rfl⟩
  have span : ∀ d, u.spanOf d = s.spanOf d := by rw [h]; exact fun _ => rfl
  have crane : ∀ d, SameCrane s u d := by rw [h]; exact fun d => SameCrane.of_records rfl rfl rfl rfl rfl
  refine hs.settledBut part (fun d _ => span d) (fun d out fitted => (crane d).view part (fun e _ => crane e)
    (fun b _ => crane b) ⟨?_, ?_⟩) fun w e _ _ => (crane w).gap (crane e)
  · unfold State.trippedEast
    cases hk : lineEastOf d with
    | none => rfl
    | some k =>
      refine trips k (.inl ?_)
      rwa [show lineWest k = d from Fin.ext (lineEastOf_eq_some.1 hk)]
  · unfold State.trippedWest
    cases hk : lineWestOf d with
    | none => rfl
    | some k =>
      refine trips k (.inr ?_)
      rwa [show lineEast k = d from Fin.ext (lineWestOf_eq_some.1 hk)]

omit hs in
theorem State.lineTo_tripped_other (level : Level) {j k : LineNo} (h : j ≠ k) :
    (s.lineTo k level).tripped j = s.tripped j := by
  unfold State.lineTo
  dsimp only
  split <;> simp [State.tripped, entry_put, h]

theorem SpanSettled.lineChanged {t : State} {k : LineNo} {level : Level}
    (run : execSensorLineChange k level s = .next t) : SpanSettled t := by
  obtain rfl := Host.Outcome.next.inj run
  have only : s.lineTo k level = { s with
      sensorLevels := (s.lineTo k level).sensorLevels, latches := (s.lineTo k level).latches,
      alerts := (s.lineTo k level).alerts, attn := (s.lineTo k level).attn } := by rw [State.lineTo_only]
  have settled : SpanSettled ((s.lineTo k level).reevaluate [lineWest k, lineEast k]) :=
    (hs.settledBut_lines only fun j out => State.lineTo_tripped_other level (by rintro rfl; simp at out)).reevaluate
  dsimp only
  split
  · exact hs
  · split
    · next same =>
      refine settledBut_nil.1 (hs.settledBut_lines only fun j _ => ?_)
      by_cases h : j = k
      · rw [h, same]
      · exact State.lineTo_tripped_other level h
    · split
      · exact settled.raiseTrips [k]
      · exact settled

theorem SpanSettled.followHalt (level : Level) : SpanSettled (({ s with haltLine := level } : State).followHalt) := by
  have settled : SpanSettled (({ s with haltLine := level, halted := level == s.config.haltPolarity } : State).reevaluate
      s.fittedSlots) :=
    spanSettled_reevaluate { s with haltLine := level, halted := level == s.config.haltPolarity } hs.unfitted hs.noPair
  unfold State.followHalt
  dsimp only
  split
  · exact hs.of_sameInputs (by constructor <;> simp [State.flight, State.spanOf]) rfl rfl
  · split
    · exact settled.raise _ _
    · exact settled

omit hs in
theorem State.mem_latchedTrips {k : LineNo} : k ∈ s.latchedTrips ↔ s.tripped k = true ∧
    (entry s.config.sensorModes k = .rise ∨ entry s.config.sensorModes k = .fall ∨
      entry s.config.sensorModes k = .both) := by
  simp [State.latchedTrips, or_assoc]

theorem SpanSettled.acknowledge (mask : BitVec 16) : SpanSettled (s.acknowledge mask) := by
  unfold State.acknowledge
  dsimp only
  split
  · refine SettledBut.reevaluate (hs.settledBut_lines rfl fun j out => ?_)
    have free : j ∉ State.latchedTrips (State.driveAttn { s with alerts := clearedAlerts s.alerts mask }) := by
      intro named
      simp only [List.mem_flatMap, not_exists, not_and] at out
      obtain out | out := out
      · exact out j named (by simp)
      · exact out j named (by simp)
    have free : ¬ (s.tripped j = true ∧ (entry s.config.sensorModes j = .rise ∨ entry s.config.sensorModes j = .fall ∨
        entry s.config.sensorModes j = .both)) := mt State.mem_latchedTrips.2 free
    simp only [State.tripped, entry_replicate] at free ⊢
    cases hm : entry s.config.sensorModes j <;> simp_all [tripHeld]
  · exact hs.of_sameInputs (by constructor <;> simp [State.flight, State.spanOf]) rfl rfl

end Lines

/-- A span event leaves the span settled. -/
theorem SpanSettled.spanEvent {s t : State} (hs : SpanSettled s) (h : SpanEvent s t) : SpanSettled t := by
  cases h with
  | joinStarted => exact hs.reevaluate_concern (changesCrane_clearGoal _)
  | pageOne fitted awaited good => exact hs.storePage awaited
  | pageTwo fitted awaited good => exact hs.storePage awaited
  | joinDone => exact hs.reevaluate_concern (changesCrane_setCrane _)
  | joinAbandoned c => exact hs.abandonJoin
  | positionTaken r => exact hs.takePosition r
  | @reportsStopped c =>
    exact hs.reevaluate_concern (u := (s.setCrane c _).clearGoal c) (changesCrane_clearGoal _)
  | craneLost => exact hs.reevaluate_concern ((changesCrane_clearGoal _).raise _ _)
  | goalGranted target fitted => exact hs.reevaluate_concern (changesCrane_setSpan _ fitted)
  | goalCancelled c => exact hs.cancelGoal
  | overrideStored => exact hs.reevaluate_concern (changesCrane_override _)
  | lineChanged run => exact hs.lineChanged run
  | haltChanged level => exact hs.followHalt level
  | acknowledged mask => exact hs.acknowledge mask

/-! ### Power-on, the modes and the configuration -/

theorem State.poweredOn_fitted (h : Level) (lines : Vector Level 7) (d : Slot) :
    (State.poweredOn h lines).fitted d = false := by
  simp [State.fitted, ConfigSet.isFitted, State.poweredOn, ConfigSet.reset, has]

theorem spanSettled_poweredOn (h : Level) (lines : Vector Level 7) : SpanSettled (State.poweredOn h lines) := by
  have unfitted := State.poweredOn_fitted h lines
  have watch : ∀ w, (State.poweredOn h lines).watch w = none := fun w => by simp [State.watch, State.poweredOn]
  refine settledBut_nil.1 (SettledBut.all (fun d fitted => ?_) (fun d _ => ?_) fun w _ => watch w)
  · simp [unfitted] at fitted
  · simp [State.spanOf, State.poweredOn]

section Setup

variable {s : State} (hs : SpanSettled s)

include hs

theorem SpanSettled.enterSetup : SpanSettled s.enterSetup := by
  refine spanSettled_reevaluate { s with
    mode := .setup, span := table8 fun c => { s.spanOf c with goal := none, emptyMark := false } }
    (fun d fitted => ?_) hs.noPair
  have reset := hs.unfitted d fitted
  rw [State.spanOf, entry_table8, reset]
  rfl

theorem SpanSettled.enterOperating : SpanSettled s.enterOperating :=
  spanSettled_reevaluate { s with mode := .operating } hs.unfitted hs.noPair

theorem SpanSettled.refit_unfitted (new : ConfigSet) (d : Slot) (fitted : new.isFitted d = false) :
    (s.refit new).spanOf d = SpanRecord.reset := by
  rw [State.spanOf, State.refit, entry_table8]
  by_cases old : s.config.isFitted d = true
  · simp [unfits, old, fitted]
  · simp [unfits, old, hs.unfitted d (by simpa [State.fitted] using old)]

theorem SpanSettled.refit_noPair (new : ConfigSet) (w : Slot) (pair : new.pairEast w = none) :
    (s.refit new).watch w = none := by
  rw [State.watch, State.refit, entry_table8, pair]
  by_cases old : s.config.pairEast w = none
  · simp [old, hs.noPair w old]
  · simp [Ne.symm old]

/-- A new configuration that changes no item of the Span Computer refits nothing. -/
theorem SpanSettled.refit_same {new : ConfigSet} (same : SameSpanItems s.config new) : SpanSettled (s.refit new) := by
  have keeps : ∀ d, unfits s.config new d = false := fun d => by simp [unfits, same.isFitted]
  have crane : ∀ d, (s.refit new).crane d = s.crane d := fun d => by
    rw [State.crane, State.refit, entry_table8, keeps]; rfl
  have span : ∀ d, (s.refit new).spanOf d = s.spanOf d := fun d => by
    rw [State.spanOf, State.refit, entry_table8, keeps]; rfl
  have watch : ∀ w, (s.refit new).watch w = s.watch w := fun w => by
    rw [State.watch, State.refit, entry_table8, (same.neighbours w).2.2, beq_self_eq_true]; rfl
  have latch : (s.refit new).latches = s.latches := table_ext fun k => by
    simp [State.refit, lineEnds, keeps, same.modes]
  refine hs.of_same ⟨same, rfl, rfl, watch⟩ span (fun d => ?_) fun k => ?_
  · exact SameCrane.of_records same.park rfl (crane d) (by rw [span]) rfl
  · have serves : (s.refit new).config.serves k = s.config.serves k := same.serves k
    have modes : (s.refit new).config.sensorModes = s.config.sensorModes := same.modes
    rw [State.tripped, State.tripped, serves, modes, latch]
    rfl

omit hs in
theorem State.applyCheckInterval_only (old : ConfigSet) : s.applyCheckInterval old =
    { s with gangs := (s.applyCheckInterval old).gangs, alerts := (s.applyCheckInterval old).alerts,
             attn := (s.applyCheckInterval old).attn, gangPort := (s.applyCheckInterval old).gangPort } := by
  unfold State.applyCheckInterval
  split
  · rfl
  · exact foldl_only State.superviseGang
      (fun t u => { t with gangs := u.gangs, alerts := u.alerts, attn := u.attn, gangPort := u.gangPort })
      (fun _ => rfl) (fun _ _ _ => rfl) (fun t g => t.superviseGang_only g) all8 s

theorem SpanSettled.applyCheckInterval (old : ConfigSet) : SpanSettled (s.applyCheckInterval old) := by
  rw [State.applyCheckInterval_only]
  exact hs.of_sameInputs (by constructor <;> simp [State.flight, State.spanOf]) rfl rfl

theorem SpanSettled.driveAttn : SpanSettled s.driveAttn :=
  hs.of_sameInputs (by constructor <;> simp [State.flight, State.spanOf, State.driveAttn]) rfl rfl

theorem SpanSettled.configEvaluated (items : List ConfigItem) : SpanSettled (s.configEvaluated items) := by
  unfold State.configEvaluated
  split
  · exact spanSettled_reevaluate (s.reconfigured items) (hs.refit_unfitted _) (hs.refit_noPair _)
  · next same =>
    simp only [Bool.or_eq_true, not_or, Bool.not_eq_true, bne_eq_false_iff_eq] at same
    rw [State.reconfigured, show (s.haltLine == (storeItems s.config items).haltPolarity) = s.halted from same.2]
    exact hs.refit_same (spanItemsDiffer_eq_false same.1)

theorem SpanSettled.applyConfig (items : List ConfigItem) : SpanSettled (s.applyConfig items) := by
  rw [State.applyConfig_eq]
  refine SpanSettled.driveAttn (SpanSettled.applyCheckInterval ?_ _)
  split
  · exact ((hs.configEvaluated items).raiseTrips _).raise _ _
  · exact (hs.configEvaluated items).raiseTrips _

end Setup

theorem SpanSettled.setupEvent {s t : State} (hs : SpanSettled s) (h : SetupEvent s t) : SpanSettled t := by
  cases h with
  | poweredOn h lines =>
    exact (spanSettled_poweredOn h lines).of_sameInputs (by constructor <;> simp [State.flight, State.spanOf]) rfl rfl
  | setup => exact hs.enterSetup
  | operating => exact hs.enterOperating
  | configured => exact hs.applyConfig _

/-! ### Groups taken and ended -/

theorem SpanSettled.endFlight {s : State} (hs : SpanSettled s) (c : Slot) : SpanSettled (s.endFlight c) :=
  hs.reevaluate_concern (u := (s.setFlight c none).setCrane c _) (changesCrane_endFlight _)

theorem SpanSettled.groupEvent {s t : State} (hs : SpanSettled s) (h : GroupEvent s t) : SpanSettled t := by
  cases h with
  | @taken c g =>
    refine hs.reevaluate_concern ?_
    constructor <;> intros <;> simp_all [State.flight_setFlight, State.crane, entry_put, State.markRecords]
  | landed =>
    refine SpanSettled.endFlight (hs.of_sameInputs ?_ ?_ ?_) _
    · constructor <;> intros <;> split <;> simp [State.removeRecords]
    · split <;> simp [State.removeRecords]
    · split <;> simp [State.removeRecords]
  | givenUp =>
    exact SpanSettled.endFlight (hs.of_sameInputs (by constructor <;> simp [State.markRecords])
      (by simp [State.markRecords]) (by simp [State.markRecords])) _
  | forced =>
    exact SpanSettled.endFlight (hs.of_sameInputs (by constructor <;> simp [State.removeRecords])
      (by simp [State.removeRecords]) (by simp [State.removeRecords])) _

/-- Every event leaves the span settled. -/
theorem SpanSettled.happens (s t : State) (hs : SpanSettled s) (h : Happens s t) : SpanSettled t := by
  cases h with
  | port h => exact hs.of_sameInputs h.sameInputs (by rw [h.only]) (by rw [h.only])
  | span h => exact hs.spanEvent h
  | setup h => exact hs.setupEvent h
  | group h => exact hs.groupEvent h
  | truck h => exact hs.of_sameInputs h.sameInputs (by rw [h.only]) (by rw [h.only])
  | gang h => exact hs.of_sameInputs h.sameInputs (by rw [h.only]) (by rw [h.only])
  | berth h => exact hs.of_sameInputs h.sameInputs (by rw [h.only]) (by rw [h.only])
  | store h => exact hs.of_sameInputs h.sameInputs (by rw [h.only]) (by rw [h.only])

theorem SpanSettled.pending (s : State) (q : List Instr) (hs : SpanSettled s) : SpanSettled { s with pending := q } :=
  hs.of_sameInputs (by constructor <;> simp [State.flight, State.spanOf]) rfl rfl

/-- Settles O5: every event leaves the span settled, and every command is a chain of events. -/
theorem stepKeepsSpanSettled : Obligations.StepKeepsSpanSettled :=
  fun _ _ hs run => step_keeps SpanSettled.pending SpanSettled.happens hs run

end Sys2Proof.Machine

namespace Sys2Proof.Machine

/-! ### An asserted permit is safe (R38, R47) -/

section Permits

variable {t : State} (ht : SpanSettled t)

include ht

/-- An asserted east permit: its crane is fitted, and its condition holds. -/
theorem SpanSettled.eastPermit {c : Slot} (h : (t.spanOf c).eastPermit = true) :
    t.fitted c = true ∧ t.eastCondition c (t.bounds c) = true := by
  by_cases fitted : t.fitted c = true
  · exact ⟨fitted, ht.east c fitted ▸ h⟩
  · rw [ht.unfitted c (by simpa using fitted)] at h
    cases h

theorem SpanSettled.westPermit {c : Slot} (h : (t.spanOf c).westPermit = true) :
    t.fitted c = true ∧ t.westCondition c (t.bounds c) = true := by
  by_cases fitted : t.fitted c = true
  · exact ⟨fitted, ht.west c fitted ▸ h⟩
  · rw [ht.unfitted c (by simpa using fitted)] at h
    cases h

theorem SpanSettled.permitsSafe : PermitsSafe t := by
  refine ⟨fun c h => ?_, fun c => ⟨fun h => ?_, fun h => ?_⟩⟩
  · have may : t.fitted c = true ∧ t.mayTravel c = true := by
      obtain h | h := Bool.or_eq_true_iff.1 h
      · exact ⟨(ht.eastPermit h).1, ((t.eastCondition_iff c _).1 (ht.eastPermit h).2).1⟩
      · exact ⟨(ht.westPermit h).1, ((t.westCondition_iff c _).1 (ht.westPermit h).2).1⟩
    exact ⟨may.1, (t.mayTravel_iff c).1 may.2⟩
  · obtain ⟨-, clear, -⟩ := (t.eastCondition_iff c _).1 (ht.eastPermit h).2
    exact clear
  · obtain ⟨-, clear, -⟩ := (t.westCondition_iff c _).1 (ht.westPermit h).2
    exact clear

end Permits

theorem State.rangeWest_le (s : State) (d : Slot) : s.rangeWest d ≤ s.positionUsed d := by
  unfold State.rangeWest
  split <;> omega

theorem State.positionUsed_le_rangeEast (s : State) (d : Slot) : s.positionUsed d ≤ s.rangeEast d := by
  unfold State.rangeEast
  split <;> omega

/-- The west face of a crane with its braking distance leaves the room that `eastwardRoom` asks for (R37, R38). -/
theorem State.westFace_braking (s : State) (e : Slot) :
    s.westFace e - stoppingDistance (s.geometry e) (s.towardWest e) ≤
      (s.positionUsed e : Int) - (s.geometry e).rail.westExtent -
        (if s.uncertain e then stoppingDistance (s.geometry e) (s.geometry e).rail.maxSpeed
          else stoppingDistance (s.geometry e) (westSpeed (s.crane e).lastVelocity)) := by
  have := s.rangeWest_le e
  unfold State.westFace State.widening State.towardWest
  split
  · rw [stoppingDistance_zero]; omega
  · omega

theorem State.eastFace_braking (s : State) (b : Slot) :
    (s.positionUsed b : Int) + (s.geometry b).rail.eastExtent +
        (if s.uncertain b then stoppingDistance (s.geometry b) (s.geometry b).rail.maxSpeed
          else stoppingDistance (s.geometry b) (eastSpeed (s.crane b).lastVelocity)) ≤
      s.eastFace b + stoppingDistance (s.geometry b) (s.towardEast b) := by
  have := s.positionUsed_le_rangeEast b
  unfold State.eastFace State.widening State.towardEast
  split
  · rw [stoppingDistance_zero]; omega
  · omega

theorem State.eastBound_of_east {s : State} {c e : Slot} (h : s.east c = some e) : s.eastBound c =
    s.westFace e - s.config.clearance - stoppingDistance (s.geometry e) (s.towardWest e) -
      (s.geometry c).rail.eastExtent :=
  State.eastBound_of_neighbour ((s.east_eq_some c e).1 h)

theorem State.westBound_of_west {s : State} {c b : Slot} (h : s.west c = some b) : s.westBound c =
    s.eastFace b + s.config.clearance + stoppingDistance (s.geometry b) (s.towardEast b) +
      (s.geometry c).rail.westExtent :=
  State.westBound_of_neighbour ((s.west_eq_some c b).1 h)

theorem State.eastwardRoom_of_condition {s : State} {w e : Slot} (h : s.east w = some e)
    (condition : s.eastCondition w (s.bounds w) = true) : s.eastwardRoom w e := by
  obtain ⟨-, -, within, -⟩ := (s.eastCondition_iff w _).1 condition
  have face := s.westFace_braking e
  simp only [State.bounds, State.eastBound_of_east h] at within
  unfold State.eastwardRoom
  omega

theorem State.westwardRoom_of_condition {s : State} {w e : Slot} (h : s.west e = some w)
    (condition : s.westCondition e (s.bounds e) = true) : s.westwardRoom w e := by
  obtain ⟨-, -, within, -⟩ := (s.westCondition_iff e _).1 condition
  have face := s.eastFace_braking w
  simp only [State.bounds, State.westBound_of_west h] at within
  unfold State.westwardRoom
  omega

/-- Settles O7: what the span being settled says of an asserted permit. -/
theorem permitsAreSafe : Obligations.PermitsAreSafe := by
  intro s t hs run
  have ht : SpanSettled t := stepKeepsSpanSettled s t hs run
  refine ⟨ht.permitsSafe, fun w e pair => ?_⟩
  obtain ⟨-, -, east, west⟩ := State.pairEast_spec pair
  exact ⟨fun h => State.eastwardRoom_of_condition east (ht.eastPermit h).2,
    fun h => State.westwardRoom_of_condition west (ht.westPermit h).2⟩

/-! ### Goals stay apart (R44, R46) -/

/-- Nothing that the goal of a crane depends on is changed. -/
structure KeepsGoal (s t : State) (c : Slot) : Prop where
  mode : t.mode = s.mode
  fitted : t.config.fitted = s.config.fitted
  clearance : t.config.clearance = s.config.clearance
  active : (s.crane c).slotState = .active → (t.crane c).slotState = .active
  geometry : t.geometry c = s.geometry c

theorem ConfigSet.pairEast_congr {a b : ConfigSet} (h : b.fitted = a.fitted) (w : Slot) :
    b.pairEast w = a.pairEast w := by
  unfold ConfigSet.pairEast ConfigSet.eastNeighbour ConfigSet.isFitted
  rw [h]

/-- A state with no new goal, and with what each goal depends on as it was, keeps its goals apart. -/
theorem GoalsApart.of_kept {s t : State} (hs : GoalsApart s)
    (keeps : ∀ c g, (t.spanOf c).goal = some g → (s.spanOf c).goal = some g ∧ KeepsGoal s t c) : GoalsApart t := by
  refine ⟨fun c g hg => ?_, fun w e gw ge pair hw he => ?_⟩
  · obtain ⟨hg, k⟩ := keeps c g hg
    obtain ⟨fitted, mode, active⟩ := hs.held c g hg
    refine ⟨?_, k.mode ▸ mode, k.active active⟩
    simpa only [State.fitted, ConfigSet.isFitted, k.fitted] using fitted
  · obtain ⟨hw, kw⟩ := keeps w gw hw
    obtain ⟨he, ke⟩ := keeps e ge he
    have pair : s.config.pairEast w = some e := by
      rwa [ConfigSet.pairEast_congr kw.fitted] at pair
    rw [kw.geometry, ke.geometry, kw.clearance]
    exact hs.apart w e gw ge pair hw he

theorem GoalsApart.of_sameInputs {s t : State} (hs : GoalsApart s) (h : SameInputs s t) : GoalsApart t := by
  refine hs.of_kept fun c g hg => ⟨h.goal c ▸ hg, ⟨h.mode, by rw [h.config], by rw [h.config], ?_, ?_⟩⟩
  · simp only [State.crane, h.cranes, imp_self]
  · simp only [State.geometry, State.override, State.crane, h.overrides, h.cranes]

theorem GoalsApart.of_fields {s t : State} (hs : GoalsApart s) (h : t.config = s.config ∧ t.mode = s.mode ∧
    t.overrides = s.overrides ∧ t.cranes = s.cranes ∧ t.span = s.span) : GoalsApart t := by
  obtain ⟨config, mode, overrides, cranes, span⟩ := h
  refine hs.of_kept fun d g hg => ⟨by simpa only [State.spanOf, span] using hg, ?_⟩
  constructor <;> simp only [config, mode, State.geometry, State.override, overrides, State.crane, cranes, imp_self]

theorem GoalsApart.reevaluate {u : State} (hu : GoalsApart u) (cs : List Slot) : GoalsApart (u.reevaluate cs) := by
  have watched : GoalsApart { u with watches := u.watchesAfter cs } :=
    hu.of_sameInputs (by constructor <;> simp [State.flight, State.spanOf])
  exact watched.of_sameInputs (u.reevaluate_sameInputs cs)

theorem GoalsApart.none_held {t : State} (none : ∀ c, (t.spanOf c).goal = none) : GoalsApart t :=
  ⟨fun c g h => by simp [none] at h, fun w e gw ge _ h => by simp [none] at h⟩

section Goals

variable {s : State} {c : Slot} (hs : GoalsApart s)

include hs

theorem GoalsApart.no_goal (away : (s.crane c).slotState ≠ .active) : (s.spanOf c).goal = none :=
  Option.eq_none_iff_forall_ne_some.2 fun g h => away (hs.held c g h).2.2

theorem GoalsApart.no_goal_setup (mode : s.mode ≠ .operating) (d : Slot) : (s.spanOf d).goal = none :=
  Option.eq_none_iff_forall_ne_some.2 fun g h => mode (hs.held d g h).2.1

/-- A change of the record of a crane that holds no goal, or that stays ACTIVE with its geometry. -/
theorem GoalsApart.setCrane (r : CraneRecord)
    (h : (s.spanOf c).goal = none ∨ ((s.crane c).slotState = .active → r.slotState = .active) ∧
      r.declared = (s.crane c).declared) : GoalsApart (s.setCrane c r) := by
  refine hs.of_kept fun d g hg => ⟨hg, ?_⟩
  by_cases hd : d = c
  · subst hd
    obtain h | ⟨active, declared⟩ := h
    · rw [State.setCrane_spanOf, h] at hg; cases hg
    · exact ⟨rfl, rfl, rfl, by simpa using active, by simp only [State.geometry, State.setCrane_override,
        State.crane_setCrane_same, declared]⟩
  · have crane : (s.setCrane c r).crane d = s.crane d := by rw [State.crane_setCrane, if_neg hd]
    exact ⟨rfl, rfl, rfl, by rw [crane]; exact id, by simp only [State.geometry, State.setCrane_override, crane]⟩

theorem GoalsApart.clearGoal : GoalsApart (s.clearGoal c) := by
  refine hs.of_kept fun d g hg => ⟨?_, ⟨rfl, rfl, rfl, id, rfl⟩⟩
  rw [State.clearGoal, State.spanOf_setSpan] at hg
  split at hg
  · cases hg
  · exact hg

/-- A crane whose goal is cleared with whatever change of its record. -/
theorem GoalsApart.setCrane_clearGoal (r : CraneRecord) :
    GoalsApart ((s.setCrane c r).clearGoal c) := by
  have : (s.setCrane c r).clearGoal c = (s.clearGoal c).setCrane c r := rfl
  rw [this]
  exact hs.clearGoal.setCrane r (.inl (by simp [State.clearGoal]))

theorem GoalsApart.raise (a : Alert) (d : AlertDetail) : GoalsApart (s.raise a d) :=
  hs.of_sameInputs (by constructor <;> simp)

theorem GoalsApart.takePosition (r : PositionReport) : GoalsApart (s.takePosition c r) := by
  have stored : GoalsApart (s.storePosition c r) := hs.setCrane _ (.inr ⟨fun _ => rfl, rfl⟩)
  have arrived : GoalsApart ((s.storePosition c r).arriveAtGoal c r.position) := by
    unfold State.arriveAtGoal
    split
    · split
      · exact stored.clearGoal
      · exact stored
    · exact stored
  refine GoalsApart.reevaluate ?_ _
  unfold State.checkDrift
  split
  · split
    · exact (arrived.setCrane _ (.inr (by exact ⟨id, rfl⟩))).raise _ _
    · exact arrived
  · exact arrived

omit hs in
theorem State.westBound_nonneg (s : State) (c : Slot) : 0 ≤ s.westBound c := by
  unfold State.westBound State.eastFace
  split <;> omega

omit hs in
/-- A granted goal lies in the window (R44). -/
theorem State.grantedGoal_within (settled : SpanSettled s) (fitted : s.fitted c = true)
    (free : s.travelRefusal c = none) (target : Nat) :
    s.westBound c ≤ (s.grantedGoal c target : Int) ∧ (s.grantedGoal c target : Int) ≤ s.eastBound c := by
  have window : s.window c = s.bounds c := by rw [State.window, settled.window c fitted]
  have nonneg := s.westBound_nonneg c
  rw [State.grantedGoal_eq (by rw [window]; exact nonneg), window]
  have nonempty : ¬ (s.window c).isEmpty = true := by
    unfold State.travelRefusal at free
    simp only [ite_some_eq_none] at free
    obtain ⟨-, -, -, -, wide, -⟩ := free
    exact wide
  rw [window, Window.isEmpty, decide_eq_true_iff] at nonempty
  simp only [State.bounds] at nonempty ⊢
  omega

omit hs in
theorem State.rangeWest_le_goal {e : Slot} {g : Nat} (h : (s.spanOf e).goal = some g) : s.rangeWest e ≤ g := by
  rw [State.rangeWest, h]
  exact Nat.min_le_right _ _

omit hs in
theorem State.goal_le_rangeEast {b : Slot} {g : Nat} (h : (s.spanOf b).goal = some g) : g ≤ s.rangeEast b := by
  rw [State.rangeEast, h]
  exact Nat.le_max_right _ _

theorem GoalsApart.grantGoal (settled : SpanSettled s) (fitted : s.fitted c = true)
    (free : s.travelRefusal c = none) (target : Nat) : GoalsApart (s.grantGoal c (s.grantedGoal c target)) := by
  obtain ⟨low, high⟩ := State.grantedGoal_within settled fitted free target
  obtain ⟨mode, -, active, -⟩ : s.mode = .operating ∧ s.halted = false ∧ (s.crane c).slotState = .active ∧ True := by
    unfold State.travelRefusal at free
    simp only [ite_some_eq_none] at free
    simp_all
  refine GoalsApart.reevaluate ⟨fun d g hg => ?_, fun w e gw ge pair hw he => ?_⟩ _
  · rw [State.spanOf_setSpan] at hg
    split at hg
    · next h =>
      subst h
      exact ⟨fitted, mode, active⟩
    · exact hs.held d g hg
  · obtain ⟨-, -, east, west⟩ := State.pairEast_spec (s := s) pair
    have apart : w ≠ e := fun h => by simpa [h] using ((s.east_eq_some w e).1 east).1
    show (gw : Int) + (s.geometry w).rail.eastExtent + s.config.clearance ≤ (ge : Int) - (s.geometry e).rail.westExtent
    rw [State.spanOf_setSpan] at hw he
    by_cases hwc : w = c
    · subst hwc
      rw [if_pos rfl] at hw
      rw [if_neg (Ne.symm apart)] at he
      have face := State.rangeWest_le_goal he
      rw [State.eastBound_of_east east, State.westFace] at high
      cases hw
      omega
    · rw [if_neg hwc] at hw
      by_cases hec : e = c
      · subst hec
        rw [if_pos rfl] at he
        have face := State.goal_le_rangeEast hw
        rw [State.westBound_of_west west, State.eastFace] at low
        cases he
        omega
      · rw [if_neg hec] at he
        exact hs.apart w e gw ge pair hw he

theorem GoalsApart.abandonJoin : GoalsApart (s.abandonJoin c) := by
  unfold State.abandonJoin
  split
  · next joining =>
    refine GoalsApart.reevaluate (hs.setCrane _ (.inl (hs.no_goal fun active => ?_))) _
    simp [State.isJoining, active] at joining
  · exact hs

theorem GoalsApart.spanEvent {t : State} (settled : SpanSettled s) (h : SpanEvent s t) : GoalsApart t := by
  cases h with
  | joinStarted => exact (hs.setCrane_clearGoal _).reevaluate _
  | pageOne fitted awaited => exact hs.setCrane _ (.inl (hs.no_goal (by simp [awaited])))
  | pageTwo fitted awaited => exact hs.setCrane _ (.inl (hs.no_goal (by simp [awaited])))
  | joinDone fitted awaited => exact (hs.setCrane _ (.inl (hs.no_goal (by simp [awaited])))).reevaluate _
  | joinAbandoned c => exact hs.abandonJoin
  | positionTaken r => exact hs.takePosition r
  | reportsStopped => exact (hs.setCrane_clearGoal _).reevaluate _
  | craneLost => exact ((hs.setCrane_clearGoal _).raise _ _).reevaluate _
  | goalGranted target fitted free => exact hs.grantGoal settled fitted free target
  | goalCancelled c =>
    unfold State.cancelGoal
    split
    · exact hs.clearGoal.reevaluate _
    · exact hs
  | @overrideStored c o mode =>
    exact GoalsApart.reevaluate (u := { s with overrides := put s.overrides c o })
      (GoalsApart.none_held (hs.no_goal_setup mode)) _
  | lineChanged run =>
    obtain rfl := Host.Outcome.next.inj run
    have lined : ∀ k level, GoalsApart (s.lineTo k level) := fun k level => by
      rw [State.lineTo_only]
      exact hs.of_fields ⟨rfl, rfl, rfl, rfl, rfl⟩
    dsimp only
    repeat' split
    · exact hs
    · exact lined _ _
    · rw [State.raiseTrips_only]
      exact ((lined _ _).reevaluate _).of_fields ⟨rfl, rfl, rfl, rfl, rfl⟩
    · exact (lined _ _).reevaluate _
  | haltChanged level =>
    unfold State.followHalt
    dsimp only
    have halted : ∀ b, GoalsApart { s with haltLine := level, halted := b } := fun b =>
      hs.of_fields ⟨rfl, rfl, rfl, rfl, rfl⟩
    repeat' split
    · exact halted _
    · exact ((halted _).reevaluate _).raise _ _
    · exact (halted _).reevaluate _
  | acknowledged mask =>
    unfold State.acknowledge
    have acked : GoalsApart (State.driveAttn { s with alerts := clearedAlerts s.alerts mask }) :=
      hs.of_fields ⟨rfl, rfl, rfl, rfl, rfl⟩
    dsimp only
    split
    · exact GoalsApart.reevaluate (u := { State.driveAttn { s with alerts := clearedAlerts s.alerts mask } with
        latches := Vector.replicate 7 false }) (hs.of_fields ⟨rfl, rfl, rfl, rfl, rfl⟩) _
    · exact acked

end Goals

/-! ### What a CONFIG can change while OPERATING (R171, R172) -/

/-- An item that is not settable in SETUP only changes no item of Table 10.2. -/
theorem configStore_spanItems {cfg : ConfigSet} {i : ConfigItem} (h : configSetupOnly i = false) :
    SameSpanItems cfg (configStore cfg i) := by
  cases i with
  | grace | maxRecalls | checkInterval | takeMode | lookahead | alertMask | unknown =>
    exact ⟨rfl, rfl, ⟨rfl, rfl⟩, rfl, rfl, ⟨rfl, rfl⟩, rfl, rfl⟩
  | _ => simp [configSetupOnly] at h

theorem SameSpanItems.trans {a b c : ConfigSet} (h : SameSpanItems a b) (k : SameSpanItems b c) : SameSpanItems a c where
  fitted := k.fitted.trans h.fitted
  park := k.park.trans h.park
  limits := ⟨k.limits.1.trans h.limits.1, k.limits.2.trans h.limits.2⟩
  clearance := k.clearance.trans h.clearance
  startMargin := k.startMargin.trans h.startMargin
  near := ⟨k.near.1.trans h.near.1, k.near.2.trans h.near.2⟩
  creepSpeed := k.creepSpeed.trans h.creepSpeed
  modes := k.modes.trans h.modes

theorem storeItems_spanItems {items : List ConfigItem} (h : ∀ i ∈ items, configSetupOnly i = false) (cfg : ConfigSet) :
    SameSpanItems cfg (storeItems cfg items) := by
  induction items generalizing cfg with
  | nil => exact SameSpanItems.rfl
  | cons i rest ih =>
    exact (configStore_spanItems (h i (by simp))).trans (ih (fun j hj => h j (by simp [hj])) _)

/-- A list that no check of a CONFIG refuses (R171). -/
theorem configRefusal_eq_none {mode : PartMode} {items : List ConfigItem} (h : configRefusal mode items = none) :
    (items.length ≠ 0 ∧ items.length ≤ 32) ∧ (∀ i ∈ items, configNamed i = true) ∧
      (∀ i ∈ items, mode = .operating → configSetupOnly i = false) ∧ ∀ i ∈ items, configInRange i = true := by
  unfold configRefusal at h
  split at h
  · cases h
  · next length =>
    split at h
    · cases h
    · next named =>
      split at h
      · cases h
      · next settable =>
        split at h
        · cases h
        · next range =>
          rw [List.find?_eq_none] at named settable range
          refine ⟨by omega, fun i hi => by simpa using named i hi, fun i hi hm => ?_, fun i hi => by simpa using range i hi⟩
          simpa [hm] using settable i hi

section Goals

variable {s : State} (hs : GoalsApart s)

include hs

theorem GoalsApart.refit {items : List ConfigItem} (good : configRefusal s.mode items = none) (b : Bool) :
    GoalsApart { s.refit (storeItems s.config items) with halted := b } := by
  obtain ⟨-, -, settable, -⟩ := configRefusal_eq_none good
  have goal : ∀ d g, ((s.refit (storeItems s.config items)).spanOf d).goal = some g → (s.spanOf d).goal = some g := by
    intro d g hg
    rw [State.spanOf, State.refit, entry_table8] at hg
    split at hg
    · cases hg
    · exact hg
  by_cases mode : s.mode = .operating
  · have same := storeItems_spanItems (fun i hi => settable i hi mode) s.config
    have crane : ∀ d, (s.refit (storeItems s.config items)).crane d = s.crane d := fun d => by
      rw [State.crane, State.refit, entry_table8, if_neg (by simp [unfits, same.isFitted])]
    refine hs.of_kept fun d g hg => ⟨goal d g hg, ⟨rfl, same.fitted, same.clearance, ?_, ?_⟩⟩
    · exact fun active => (congrArg CraneRecord.slotState (crane d)).trans active
    · have : State.geometry { s.refit (storeItems s.config items) with halted := b } d =
        (s.refit (storeItems s.config items)).geometry d := rfl
      rw [this, State.geometry, State.geometry, crane]
      rfl
  · refine GoalsApart.none_held fun d => Option.eq_none_iff_forall_ne_some.2 fun g hg => ?_
    have := goal d g hg
    rw [hs.no_goal_setup mode] at this
    cases this

theorem GoalsApart.applyConfig {items : List ConfigItem} (good : configRefusal s.mode items = none) :
    GoalsApart (s.applyConfig items) := by
  have evaluated : GoalsApart (s.configEvaluated items) := by
    unfold State.configEvaluated
    split
    · exact (hs.refit good _).reevaluate _
    · exact hs.refit good _
  have tripped : GoalsApart ((s.configEvaluated items).raiseTrips (State.tripsBegun s (s.configEvaluated items))) := by
    rw [State.raiseTrips_only]
    exact evaluated.of_fields ⟨rfl, rfl, rfl, rfl, rfl⟩
  have halting : ∀ u, GoalsApart u → ∀ old, GoalsApart (State.driveAttn (u.applyCheckInterval old)) := fun u hu old => by
    rw [State.applyCheckInterval_only]
    exact hu.of_fields ⟨rfl, rfl, rfl, rfl, rfl⟩
  rw [State.applyConfig_eq]
  split
  · exact halting _ (tripped.raise _ _) _
  · exact halting _ tripped _

theorem GoalsApart.setupEvent {t : State} (h : SetupEvent s t) : GoalsApart t := by
  cases h with
  | poweredOn h lines => exact GoalsApart.none_held fun c => by simp [State.spanOf, State.poweredOn, SpanRecord.reset]
  | setup =>
    exact GoalsApart.reevaluate (u := { s with
      mode := .setup, span := table8 fun c => { s.spanOf c with goal := none, emptyMark := false } })
      (GoalsApart.none_held fun c => by rw [State.spanOf, entry_table8]) _
  | operating mode =>
    exact GoalsApart.reevaluate (u := { s with mode := .operating })
      (GoalsApart.none_held (hs.no_goal_setup mode)) _
  | configured good => exact hs.applyConfig good

theorem GoalsApart.endFlight (c : Slot) : GoalsApart (s.endFlight c) := by
  have ended : GoalsApart (s.setFlight c none) := hs.of_fields ⟨rfl, rfl, rfl, rfl, rfl⟩
  exact (ended.setCrane _ (.inr (by exact ⟨id, rfl⟩))).reevaluate _

theorem GoalsApart.groupEvent {t : State} (h : GroupEvent s t) : GoalsApart t := by
  cases h with
  | @taken c g =>
    refine GoalsApart.reevaluate (GoalsApart.setCrane (hs.of_fields ?_) _ (.inr (by exact ⟨id, rfl⟩))) _
    simp [State.markRecords]
  | landed =>
    refine GoalsApart.endFlight (hs.of_fields ?_) _
    split <;> simp [State.removeRecords]
  | givenUp => exact GoalsApart.endFlight (hs.of_fields (by simp [State.markRecords])) _
  | forced => exact GoalsApart.endFlight (hs.of_fields (by simp [State.removeRecords])) _

end Goals

theorem GoalsApart.happens {s t : State} (settled : SpanSettled s) (hs : GoalsApart s) (h : Happens s t) :
    GoalsApart t := by
  cases h with
  | port h => exact hs.of_sameInputs h.sameInputs
  | span h => exact hs.spanEvent settled h
  | setup h => exact hs.setupEvent h
  | group h => exact hs.groupEvent h
  | truck h => exact hs.of_sameInputs h.sameInputs
  | gang h => exact hs.of_sameInputs h.sameInputs
  | berth h => exact hs.of_sameInputs h.sameInputs
  | store h => exact hs.of_sameInputs h.sameInputs

/-- Settles O6: a granted goal lies in the window, which the neighbours' goals bound. -/
theorem stepKeepsGoalsApart : Obligations.StepKeepsGoalsApart := by
  intro s t settled hs run
  have both := step_keeps (P := fun u => SpanSettled u ∧ GoalsApart u)
    (fun s q h => ⟨SpanSettled.pending s q h.1, h.2.of_fields ⟨rfl, rfl, rfl, rfl, rfl⟩⟩)
    (fun s t h happens => ⟨SpanSettled.happens s t h.1 happens, h.2.happens h.1 happens⟩) ⟨settled, hs⟩ run
  exact both.2

end Sys2Proof.Machine

/-! PROOFS. What every step keeps of the units (chapters 2, 3, 9 and 11): ATTN with the alerts, the halt and the latches with
their lines, the ports, the timers of the slots, and the ranges of what is stored. -/

namespace Sys2Proof.Machine

/-! ### ATTN agrees with the alerts (R167) -/

/-- ATTN is asserted as the flags and the enable mask say (R167). -/
def AttnAgrees (s : State) : Prop := s.attn = attnLevel s.alerts s.config.alertMask

section Attn

variable {s t : State}

theorem AttnAgrees.of_fields (hs : AttnAgrees s)
    (h : t.attn = s.attn ∧ t.alerts = s.alerts ∧ t.config.alertMask = s.config.alertMask) : AttnAgrees t := by
  obtain ⟨attn, alerts, mask⟩ := h
  rw [AttnAgrees, attn, alerts, mask]
  exact hs

theorem attnAgrees_driveAttn (s : State) : AttnAgrees s.driveAttn := rfl

variable (hs : AttnAgrees s)

include hs

theorem AttnAgrees.raise (a : Alert) (d : AlertDetail) : AttnAgrees (s.raise a d) := by
  unfold State.raise
  split
  · exact hs
  · exact attnAgrees_driveAttn _

theorem AttnAgrees.raiseFor (a : Alert) (ns : List Nat) (k : Nat → AlertDetail) : AttnAgrees (s.raiseFor a ns k) := by
  unfold State.raiseFor
  split
  · exact hs
  · exact hs.raise _ _

theorem AttnAgrees.reevaluate (cs : List Slot) : AttnAgrees (s.reevaluate cs) := by
  unfold State.reevaluate
  refine AttnAgrees.raiseFor ?_ _ _ _
  exact hs

theorem AttnAgrees.raiseTrips (ks : List LineNo) : AttnAgrees (s.raiseTrips ks) :=
  (hs.raiseFor _ _ _).raiseFor _ _ _

omit hs in
theorem AttnAgrees.foldl {α : Type} {f : State → α → State} (h : ∀ s a, AttnAgrees s → AttnAgrees (f s a)) (l : List α)
    (s : State) (hs : AttnAgrees s) : AttnAgrees (l.foldl f s) := by
  induction l generalizing s with
  | nil => exact hs
  | cons a rest ih => exact ih _ (h s a hs)

theorem AttnAgrees.superviseGang (g : GangId) : AttnAgrees (s.superviseGang g) := by
  unfold State.superviseGang State.becomeOverdue
  split
  · split
    · refine AttnAgrees.of_fields (AttnAgrees.raise ?_ _ _) ⟨State.send_attn .., State.send_alerts .., by simp⟩
      exact hs
    all_goals exact hs
  · exact hs

theorem AttnAgrees.spanEvent (h : SpanEvent s t) : AttnAgrees t := by
  have crane : ∀ c r, AttnAgrees (s.setCrane c r) := fun c r => hs.of_fields ⟨rfl, rfl, rfl⟩
  have cleared : ∀ c r, AttnAgrees ((s.setCrane c r).clearGoal c) := fun c r => hs.of_fields ⟨rfl, rfl, rfl⟩
  cases h with
  | joinStarted => exact (cleared _ _).reevaluate _
  | pageOne => exact crane _ _
  | pageTwo => exact crane _ _
  | joinDone => exact (crane _ _).reevaluate _
  | joinAbandoned c =>
    unfold State.abandonJoin
    split
    · exact (crane _ _).reevaluate _
    · exact hs
  | @positionTaken c r =>
    have arrived : AttnAgrees ((s.storePosition c r).arriveAtGoal c r.position) := by
      rw [State.arriveAtGoal_only]
      exact hs.of_fields ⟨rfl, rfl, rfl⟩
    refine AttnAgrees.reevaluate ?_ _
    unfold State.checkDrift
    split
    · split
      · refine AttnAgrees.raise ?_ _ _
        exact arrived
      · exact arrived
    · exact arrived
  | reportsStopped => exact (cleared _ _).reevaluate _
  | craneLost => exact ((cleared _ _).raise _ _).reevaluate _
  | goalGranted =>
    unfold State.grantGoal
    refine AttnAgrees.reevaluate ?_ _
    exact hs
  | goalCancelled c =>
    unfold State.cancelGoal
    split
    · refine AttnAgrees.reevaluate ?_ _
      exact hs
    · exact hs
  | @overrideStored c o =>
    exact AttnAgrees.reevaluate (s := { s with overrides := put s.overrides c o }) hs _
  | @lineChanged _ k level run =>
    obtain rfl := Host.Outcome.next.inj run
    have lined : AttnAgrees (s.lineTo k level) := by rw [State.lineTo_only]; exact hs
    dsimp only
    repeat' split
    · exact hs
    · exact lined
    · exact (lined.reevaluate _).raiseTrips _
    · exact lined.reevaluate _
  | haltChanged level =>
    have halted : ∀ b cs, AttnAgrees (State.reevaluate { s with haltLine := level, halted := b } cs) := fun b cs =>
      AttnAgrees.reevaluate (s := { s with haltLine := level, halted := b }) hs cs
    unfold State.followHalt
    dsimp only
    repeat' split
    · exact hs
    · exact (halted _ _).raise _ _
    · exact halted _ _
  | acknowledged mask =>
    unfold State.acknowledge
    dsimp only
    split
    · exact AttnAgrees.reevaluate (s := { State.driveAttn { s with alerts := clearedAlerts s.alerts mask } with
        latches := Vector.replicate 7 false }) (attnAgrees_driveAttn { s with alerts := clearedAlerts s.alerts mask }) _
    · exact attnAgrees_driveAttn _

omit hs in
theorem attnAgrees_poweredOn (h : Level) (lines : Vector Level 7) : AttnAgrees (State.poweredOn h lines) := by
  show (State.poweredOn h lines).attn = attnLevel (State.poweredOn h lines).alerts ConfigSet.reset.alertMask
  cases h <;> rfl

theorem AttnAgrees.setupEvent (h : SetupEvent s t) : AttnAgrees t := by
  cases h with
  | poweredOn h lines => exact attnAgrees_poweredOn h lines
  | setup =>
    exact AttnAgrees.reevaluate (s := { s with
      mode := .setup, span := table8 fun c => { s.spanOf c with goal := none, emptyMark := false } }) hs _
  | operating => exact AttnAgrees.reevaluate (s := { s with mode := .operating }) hs _
  | configured => exact attnAgrees_driveAttn _

theorem AttnAgrees.endFlight (c : Slot) : AttnAgrees (s.endFlight c) :=
  AttnAgrees.reevaluate (s := (s.setFlight c none).setCrane c { s.crane c with driftMark := false }) hs _

theorem AttnAgrees.appendLog (c : Slot) (n : Nat) (rs : List CompletionRecord) : AttnAgrees (s.appendLog c n rs) := by
  unfold State.appendLog
  dsimp only
  split
  · exact AttnAgrees.raise (s := { s with log := s.log ++ rs, backlog := true }) hs _ _
  · exact hs

theorem AttnAgrees.landed (job : Job) (f : Footprint) (ms : List MoveRecord) : AttnAgrees (s.landed job f ms).1 := by
  have folded : ∀ (step : State × Bool → MoveRecord → State × Bool),
      (∀ acc m, AttnAgrees acc.1 → AttnAgrees (step acc m).1) → ∀ acc, AttnAgrees acc.1 →
      AttnAgrees (ms.foldl step acc).1 := by
    intro step h
    induction ms with
    | nil => exact fun _ h => h
    | cons m rest ih => exact fun acc hacc => ih _ (h acc m hacc)
  unfold State.landed
  split
  · refine folded _ (fun acc m hacc => ?_) _ hs
    dsimp only
    rw [State.loadDeckLanded_only]
    exact hacc
  · exact folded _ (fun acc m hacc => (AttnAgrees.foldl (fun u i h => h.of_fields (by simp)) _ _ hacc).raiseFor _ _ _) _ hs
  · exact AttnAgrees.foldl (fun u i h => h.of_fields (by simp)) _ _ hs
  · exact AttnAgrees.foldl (fun u i h => h.of_fields (by simp)) _ _ hs
  · exact hs
  · exact hs

theorem AttnAgrees.groupEvent (h : GroupEvent s t) : AttnAgrees t := by
  have same : ∀ u : State, AttnAgrees u → ∀ c q, AttnAgrees (u.setQueue c q) := fun _ h _ _ => h
  cases h with
  | taken => exact AttnAgrees.reevaluate (hs.of_fields (by simp [State.markRecords])) _
  | @landed c f =>
    have landed := hs.landed f.job f.footprint (s.flightRecords c f)
    refine AttnAgrees.endFlight (same _ (AttnAgrees.appendLog ?_ _ _ _) _ _) _
    split
    · exact landed.of_fields (by simp)
    · exact landed.of_fields (by simp)
  | givenUp => exact AttnAgrees.endFlight (hs.of_fields (by simp [State.markRecords])) _
  | forced => exact AttnAgrees.endFlight (same _ (AttnAgrees.appendLog (hs.of_fields (by simp)) _ _ _) _ _) _

theorem AttnAgrees.truckEvent (h : TruckEvent s t) : AttnAgrees t := by
  cases h with
  | locked => exact hs
  | lifted => rw [State.liftGroup_only]; exact hs
  | attempted => rw [State.attempt_only]; exact hs
  | opened => exact hs
  | closed => rw [State.closeCall_only]; exact hs
  | arrived => rw [State.takeArrival_only]; exact hs
  | recalled => exact hs
  | failed => exact AttnAgrees.raise (hs.of_fields (by simp)) _ _
  | unserved => exact hs
  | freed => exact hs
  | restarted => exact hs

theorem AttnAgrees.gangEvent (h : GangEvent s t) : AttnAgrees t := by
  have section_ : ∀ i f, AttnAgrees (s.changeSection i f) := fun i f => hs.of_fields (by simp)
  cases h with
  | signedOn => exact hs
  | signedOff => exact hs
  | boarded => exact hs.of_fields (by simp [State.board])
  | joined => exact hs.of_fields (by simp [State.joinWaiting])
  | counted g i task n =>
    unfold State.countUnits
    dsimp only
    split
    · exact (section_ _ _).raise _ _
    · exact section_ _ _
  | checked => exact hs
  | left => exact hs.of_fields (by simp [State.exitAboard])
  | leftList =>
    unfold State.exitWaiting
    dsimp only
    split
    · exact hs.of_fields (by simp)
    · exact hs.of_fields (by simp)
  | supervised g => exact hs.superviseGang g

theorem AttnAgrees.happens (h : Happens s t) : AttnAgrees t := by
  cases h with
  | port h => rw [h.only]; exact hs
  | span h => exact hs.spanEvent h
  | setup h => exact hs.setupEvent h
  | group h => exact hs.groupEvent h
  | truck h => exact hs.truckEvent h
  | gang h => exact hs.gangEvent h
  | berth h => rw [h.only]; exact hs
  | store h => rw [h.only]; exact hs

end Attn

/-! ### The halt and the trip latches agree with their lines (R53, R58) -/

/-- The halt follows its line, and a latch is set only on a line that serves a pair in an edge mode. -/
structure LinesAgree (s : State) : Prop where
  halt : s.halted = (s.haltLine == s.config.haltPolarity)
  latch : ∀ k, entry s.latches k = true → s.config.serves k = true ∧
    (entry s.config.sensorModes k = .rise ∨ entry s.config.sensorModes k = .fall ∨
      entry s.config.sensorModes k = .both)

section Lines

variable {s t : State}

theorem LinesAgree.of_fields (hs : LinesAgree s) (h : t.halted = s.halted ∧ t.haltLine = s.haltLine ∧
    t.latches = s.latches ∧ t.config = s.config) : LinesAgree t := by
  obtain ⟨halted, line, latches, config⟩ := h
  exact ⟨by rw [halted, line, config, hs.halt], fun k => by rw [latches, config]; exact hs.latch k⟩

theorem edgeMatches_edge {m : SensorMode} {level : Level} (h : edgeMatches m level = true) :
    m = .rise ∨ m = .fall ∨ m = .both := by
  cases m <;> cases level <;> simp_all [edgeMatches]

variable (hs : LinesAgree s)

include hs

theorem LinesAgree.lineTo (k : LineNo) (level : Level) : LinesAgree (s.lineTo k level) := by
  unfold State.lineTo
  dsimp only
  split
  · next h =>
    obtain ⟨serves, edge⟩ := Bool.and_eq_true_iff.1 h
    refine ⟨hs.halt, fun j latched => ?_⟩
    by_cases hj : j = k
    · subst hj
      exact ⟨serves, edgeMatches_edge edge⟩
    · dsimp only at latched
      rw [entry_put_other _ _ hj] at latched
      exact hs.latch j latched
  · exact ⟨hs.halt, hs.latch⟩

theorem LinesAgree.spanEvent (h : SpanEvent s t) : LinesAgree t := by
  cases h with
  | @lineChanged _ k level run =>
    obtain rfl := Host.Outcome.next.inj run
    dsimp only
    repeat' split
    · exact hs
    · exact hs.lineTo k level
    · exact (hs.lineTo k level).of_fields (by simp [State.raiseTrips])
    · exact (hs.lineTo k level).of_fields (by simp)
  | haltChanged level =>
    unfold State.followHalt
    dsimp only
    split
    · next same => exact ⟨same.symm, hs.latch⟩
    · have followed : LinesAgree { s with haltLine := level, halted := level == s.config.haltPolarity } :=
        ⟨rfl, hs.latch⟩
      split
      · exact followed.of_fields (by simp)
      · exact followed.of_fields (by simp)
  | acknowledged mask =>
    unfold State.acknowledge State.clearLatches
    dsimp only
    split
    · exact ⟨by simp [State.driveAttn, hs.halt], by simp⟩
    · exact ⟨hs.halt, hs.latch⟩
  | joinStarted => exact hs.of_fields (by simp [State.startJoin, State.clearGoal])
  | pageOne => exact hs.of_fields (by simp [State.storePage])
  | pageTwo => exact hs.of_fields (by simp [State.storePage])
  | joinDone => exact hs.of_fields (by simp [State.joinDone])
  | joinAbandoned => rw [State.abandonJoin_only]; exact hs.of_fields ⟨rfl, rfl, rfl, rfl⟩
  | positionTaken => rw [State.takePosition_only]; exact hs.of_fields ⟨rfl, rfl, rfl, rfl⟩
  | reportsStopped => exact hs.of_fields (by simp [State.clearGoal])
  | craneLost => exact hs.of_fields (by simp [State.craneLost, State.clearGoal])
  | goalGranted => exact hs.of_fields (by simp [State.grantGoal])
  | goalCancelled =>
    unfold State.cancelGoal
    split
    · exact hs.of_fields (by simp [State.clearGoal])
    · exact hs
  | overrideStored => exact hs.of_fields (by simp [State.overrideStored])

theorem LinesAgree.reconfigured (items : List ConfigItem) : LinesAgree (s.reconfigured items) := by
  refine ⟨rfl, fun k latched => ?_⟩
  rw [State.reconfigured, State.refit] at latched ⊢
  dsimp only at latched ⊢
  rw [entry_table7] at latched
  split at latched
  · cases latched
  · next ends =>
    obtain ⟨serves, edge⟩ := hs.latch k latched
    simp only [lineEnds, Bool.or_eq_true, not_or, bne_iff_ne, ne_eq, Classical.not_not, unfits, Bool.not_eq_true,
      Bool.and_eq_false_iff] at ends
    obtain ⟨⟨mode, west⟩, east⟩ := ends
    simp only [ConfigSet.serves, Bool.and_eq_true] at serves ⊢
    obtain ⟨⟨fittedWest, fittedEast⟩, enabled⟩ := serves
    rw [mode] at enabled edge
    have west := west.resolve_left (by simp [fittedWest])
    have east := east.resolve_left (by simp [fittedEast])
    exact ⟨⟨⟨by simpa using west, by simpa using east⟩, enabled⟩, edge⟩

omit hs in
theorem linesAgree_poweredOn (h : Level) (lines : Vector Level 7) : LinesAgree (State.poweredOn h lines) :=
  ⟨rfl, by simp [State.poweredOn]⟩

theorem LinesAgree.setupEvent (h : SetupEvent s t) : LinesAgree t := by
  cases h with
  | poweredOn h lines => exact (linesAgree_poweredOn h lines).of_fields (by simp)
  | setup => exact hs.of_fields (by simp [State.enterSetup])
  | operating => exact hs.of_fields (by simp [State.enterOperating])
  | @configured items =>
    have evaluated : LinesAgree (s.configEvaluated items) := by
      unfold State.configEvaluated
      split
      · exact (hs.reconfigured items).of_fields (by simp)
      · exact hs.reconfigured items
    rw [State.applyConfig_eq, State.applyCheckInterval_only]
    refine evaluated.of_fields ?_
    split <;> simp [State.raiseTrips, State.driveAttn]

theorem LinesAgree.happens (h : Happens s t) : LinesAgree t := by
  cases h with
  | port h => rw [h.only]; exact ⟨hs.halt, hs.latch⟩
  | span h => exact hs.spanEvent h
  | setup h => exact hs.setupEvent h
  | group h => rw [show t = _ from h.only]; exact ⟨hs.halt, hs.latch⟩
  | truck h => rw [h.only]; exact ⟨hs.halt, hs.latch⟩
  | gang h => rw [h.only]; exact ⟨hs.halt, hs.latch⟩
  | berth h => rw [h.only]; exact ⟨hs.halt, hs.latch⟩
  | store h => rw [h.only]; exact ⟨hs.halt, hs.latch⟩

end Lines

end Sys2Proof.Machine

/-! PROOFS. The ports (chapter 11): a reply before the notices its request causes, and what every step keeps of the links. -/

namespace Sys2Proof.Machine

/-! ### A reply leaves before the notices (R179) -/

section Replies

variable {s t : State} {p : PortId}

/-- After a valid telegram its port is up, and only the resync of a lane link that was down waits there besides (R157). -/
theorem State.telegramIn_port (s : State) (p : PortId) : ∃ first, (s.telegramIn p).port p =
      { (s.heard p).port p with outbox := ((s.heard p).port p).outbox ++ first } ∧
    (∀ x ∈ first, x.isNotice = true) ∧ (p ≠ .lane ∨ s.lanePort.linkUp = true → first = []) := by
  by_cases h : p ≠ .lane ∨ (s.port p).linkUp = true
  · exact ⟨[], by rw [s.telegramIn_heard h, List.append_nil], by simp, fun _ => rfl⟩
  · obtain ⟨lane, down⟩ : p = .lane ∧ (s.port p).linkUp = false := by simpa using h
    subst lane
    obtain ⟨first, resynced, notices, -⟩ := (s.heard .lane).laneLinkUp_does.tells .lane
    have down : s.lanePort.linkUp = false := down
    exact ⟨first, by rw [s.telegramIn_laneDown down, resynced], notices, by simp [down]⟩

/-- Telegrams put after the first `n` of a port that is up. -/
theorem State.insertTelegrams_port (s : State) {n : Nat} {ts : List Telegram} (up : (s.port p).linkUp = true) :
    (s.insertTelegrams p n ts).port p =
      { s.port p with outbox := (s.port p).outbox.take n ++ ts ++ (s.port p).outbox.drop n } := by
  rw [State.insertTelegrams, if_pos up, State.port_setPort_same]

/-- Settles O59: each request answers before its event's notices, and what an event puts on a port only adds behind. -/
theorem replyLeavesBeforeNotices : Obligations.ReplyLeavesBeforeNotices := by
  intro s t i p q telegram run
  obtain ⟨r, ⟨does, some, replies, one⟩, rfl⟩ := exec_answered telegram run
  obtain ⟨first, taken, firstNotices, noResync⟩ := s.telegramIn_port p
  obtain ⟨notices, told, notice, -⟩ := does.tells p
  rw [State.heard_port_same] at taken
  rw [r.1.insertTelegrams_port (by rw [told, taken]), told, taken]
  refine ⟨rfl, rfl, first, r.2, notices, by rw [List.take_left, List.drop_left], ?_, replies, some, one, noResync⟩
  simpa [or_imp, forall_and] using And.intro firstNotices notice

end Replies

/-! ### The links (R178, R179) -/

/-- The silence timer runs on a port that is up, and nothing waits on one that is down. -/
structure PortsAgree (s : State) : Prop where
  silence : ∀ p, (s.port p).silence.isSome = (s.port p).linkUp
  outbox : ∀ p, (s.port p).linkUp = false → (s.port p).outbox = []

section Ports

variable {s t : State} (hs : PortsAgree s)

include hs

theorem PortsAgree.tells (h : Tells s t) : PortsAgree t := by
  constructor
  · intro p
    obtain ⟨ns, port, -⟩ := h p
    rw [port]
    exact hs.silence p
  · intro p down
    obtain ⟨ns, port, -, none⟩ := h p
    rw [port] at down ⊢
    simp only at down ⊢
    rw [hs.outbox p down, none down, List.append_nil]

theorem PortsAgree.setPort {p : PortId} {r : Port} (silence : r.silence.isSome = r.linkUp)
    (outbox : r.linkUp = false → r.outbox = []) : PortsAgree (s.setPort p r) := by
  constructor
  · intro q
    rw [State.port_setPort]
    split
    · exact silence
    · exact hs.silence q
  · intro q
    rw [State.port_setPort]
    split
    · exact outbox
    · exact hs.outbox q

theorem PortsAgree.portEvent (h : PortEvent s t) : PortsAgree t := by
  cases h with
  | heard p => exact hs.setPort rfl (by simp)
  | inserted p n ts =>
    unfold State.insertTelegrams
    split
    · next up => exact hs.setPort (hs.silence p) (by simp [up])
    · exact hs
  | sent p x =>
    unfold State.send
    split
    · next up => exact hs.setPort (hs.silence p) (by simp [up])
    · exact hs
  | linkDown p => exact hs.setPort rfl (fun _ => rfl)
  | receiver p r => exact hs.setPort (hs.silence p) (hs.outbox p)
  | telegramSent p up => exact hs.setPort (hs.silence p) (by simp [up])
  | clock => exact hs.tells (.of_ports (State.ports_of_only ⟨rfl, rfl, rfl, rfl⟩))

omit hs in
theorem portsAgree_poweredOn (h : Level) (lines : Vector Level 7) : PortsAgree (State.poweredOn h lines) := by
  have reset : ∀ p, (State.poweredOn h lines).port p = Port.reset := fun p => by
    cases p <;> simp [State.port, State.poweredOn]
  exact ⟨fun p => by rw [reset]; rfl, fun p _ => by rw [reset]; rfl⟩

theorem PortsAgree.setupEvent (h : SetupEvent s t) : PortsAgree t := by
  cases h with
  | poweredOn h lines =>
    exact (portsAgree_poweredOn h lines).tells (.of_ports (State.ports_of_only ⟨rfl, rfl, rfl, rfl⟩))
  | setup => exact hs.tells s.enterSetup_tells
  | operating => exact hs.tells s.enterOperating_tells
  | configured => exact hs.tells (s.applyConfig_tells _)

theorem PortsAgree.happens (h : Happens s t) : PortsAgree t := by
  cases h with
  | port h => exact hs.portEvent h
  | span h => exact hs.tells h.tells
  | setup h => exact hs.setupEvent h
  | group h => exact hs.tells h.tells
  | truck h => exact hs.tells h.tells
  | gang h => exact hs.tells h.tells
  | berth h => exact hs.tells h.tells
  | store h => exact hs.tells h.tells

end Ports

end Sys2Proof.Machine

/-! PROOFS. What an event leaves of a crane record (chapter 2), and what every step keeps of timers, marks and ranges. -/

namespace Sys2Proof.Machine

/-! ### The crane record after an event -/

/-- What an event can leave as the record of slot `c`. -/
inductive CraneStep (s : State) (c : Slot) : CraneRecord → Prop where
  | kept : CraneStep s c (s.crane c)
  | reset : CraneStep s c CraneRecord.reset
  | markCleared : CraneStep s c { s.crane c with driftMark := false }
  | joinStarted (fitted : s.fitted c = true) (n : Nat) : CraneStep s c
      { s.crane c with slotState := .joining .awaitPage1, joinTimer := some n, reportTimer := none }
  | pageOne (fitted : s.fitted c = true) (awaited : (s.crane c).slotState = .joining .awaitPage1) {f : Page1}
      (good : page1InRange f = true) (n : Nat) :
      CraneStep s c { s.crane c with slotState := .joining (.awaitPage2 f), joinTimer := some n }
  | pageTwo (fitted : s.fitted c = true) {one : Page1} {f : Page2}
      (awaited : (s.crane c).slotState = .joining (.awaitPage2 one)) (good : page2InRange f = true) (n : Nat) :
      CraneStep s c { s.crane c with slotState := .joining (.awaitPage3 one f), joinTimer := some n }
  | joinDone (fitted : s.fitted c = true) {one : Page1} {two : Page2} {three : Page3}
      (awaited : (s.crane c).slotState = .joining (.awaitPage3 one two)) (good : page3InRange three = true) :
      CraneStep s c { s.crane c with
        slotState := .stale, declared := some { rail := one, hoist := two, lanes := three }, joinTimer := none }
  | joinAbandoned (joining : (s.crane c).slotState.isJoining = true) :
      CraneStep s c { s.crane c with slotState := .down, joinTimer := none }
  | positionTaken (fitted : s.fitted c = true)
      (enrolled : (s.crane c).slotState = .stale ∨ (s.crane c).slotState = .active) (position : Nat) (velocity : Int)
      (time : Time) (n : Nat) (mark : Bool) (drifted : mark = true → (s.crane c).driftMark = true ∨ s.lifting c) :
      CraneStep s c { s.crane c with
        slotState := .active, lastPosition := some position, lastVelocity := heldVelocity velocity,
        lastReportTime := some time, driftMark := mark, reportTimer := some n }
  | reportsStopped (timer : (s.crane c).reportTimer.isSome = true) :
      CraneStep s c { s.crane c with slotState := .stale, reportTimer := none }
  | lost (fitted : s.fitted c = true) :
      CraneStep s c { s.crane c with slotState := .down, joinTimer := none, reportTimer := none }

section CraneSteps

variable {s t : State} {c : Slot}

/-- A record stored for `c` alone. -/
theorem CraneStep.at {r : CraneRecord} (h : CraneStep s c r) (stored : ∀ d, t.crane d = if d = c then r else s.crane d)
    (d : Slot) : CraneStep s d (t.crane d) := by
  rw [stored]
  split
  · next e => exact e ▸ h
  · exact .kept

theorem State.crane_clearGoal_setCrane (r : CraneRecord) (d : Slot) :
    ((s.setCrane c r).clearGoal c).crane d = if d = c then r else s.crane d := by
  simp [State.clearGoal, State.crane_setCrane]

theorem State.takePosition_crane (r : PositionReport) (fitted : s.fitted c = true)
    (enrolled : (s.crane c).slotState = .stale ∨ (s.crane c).slotState = .active) (d : Slot) :
    CraneStep s d ((s.takePosition c r).crane d) := by
  have arrived : ∀ d, ((s.storePosition c r).arriveAtGoal c r.position).crane d = (s.storePosition c r).crane d :=
    fun d => by rw [State.arriveAtGoal_only]; rfl
  have stored : (s.storePosition c r).crane c = { s.crane c with
      slotState := .active, lastPosition := some r.position, lastVelocity := heldVelocity r.velocity,
      lastReportTime := some s.clock, reportTimer := some s.config.reportLimit } := State.crane_setCrane_same ..
  have lift : ((s.storePosition c r).arriveAtGoal c r.position).flight c = s.flight c := by
    rw [State.arriveAtGoal_only]; rfl
  have unmarked : CraneStep s c ((s.storePosition c r).crane c) := by
    rw [stored]
    exact .positionTaken fitted enrolled _ _ _ _ (s.crane c).driftMark .inl
  have other : ∀ d, (s.storePosition c r).crane d = if d = c then (s.storePosition c r).crane c else s.crane d :=
    fun d => by rw [stored]; exact State.crane_setCrane ..
  unfold State.takePosition State.checkDrift
  rw [State.reevaluate_crane, lift]
  split
  · next f hf =>
    split
    · rw [State.raise_crane]
      have marked : CraneStep s c { (s.storePosition c r).crane c with driftMark := true } := by
        rw [stored]
        exact .positionTaken fitted enrolled _ _ _ _ true fun _ => .inr ⟨f, hf⟩
      refine marked.at (fun d => ?_) d
      rw [State.crane_setCrane, arrived, arrived]
      split
      · rfl
      · next h => rw [other, if_neg h]
    · rw [arrived]
      exact unmarked.at other d
  · rw [arrived]
    exact unmarked.at other d

theorem SpanEvent.crane (h : SpanEvent s t) (d : Slot) : CraneStep s d (t.crane d) := by
  cases h with
  | joinStarted fitted =>
    exact (CraneStep.joinStarted fitted _).at (fun d => by
      rw [State.startJoin, State.reevaluate_crane, State.crane_clearGoal_setCrane]) d
  | pageOne fitted awaited good => exact (CraneStep.pageOne fitted awaited good _).at (fun d => State.crane_setCrane ..) d
  | pageTwo fitted awaited good => exact (CraneStep.pageTwo fitted awaited good _).at (fun d => State.crane_setCrane ..) d
  | joinDone fitted awaited good =>
    exact (CraneStep.joinDone fitted awaited good).at (fun d => by
      rw [State.joinDone, State.reevaluate_crane, State.crane_setCrane]) d
  | joinAbandoned c =>
    unfold State.abandonJoin
    split
    · next joining =>
      refine (CraneStep.joinAbandoned ?_).at (fun d => by rw [State.reevaluate_crane, State.crane_setCrane]) d
      unfold State.isJoining at joining
      unfold SlotState.isJoining
      split at joining <;> simp_all
    · exact .kept
  | positionTaken r fitted enrolled => exact State.takePosition_crane r fitted enrolled d
  | reportsStopped timer =>
    exact (CraneStep.reportsStopped timer).at (fun d => by
      rw [State.reevaluate_crane, State.crane_clearGoal_setCrane]) d
  | craneLost fitted =>
    exact (CraneStep.lost fitted).at (fun d => by
      rw [State.craneLost, State.reevaluate_crane, State.raise_crane, State.crane_clearGoal_setCrane]) d
  | goalGranted => rw [State.grantGoal, State.reevaluate_crane]; exact .kept
  | goalCancelled =>
    unfold State.cancelGoal
    split
    · rw [State.reevaluate_crane]; exact .kept
    · exact .kept
  | overrideStored => rw [State.overrideStored, State.reevaluate_crane]; exact .kept
  | lineChanged run =>
    obtain rfl := Host.Outcome.next.inj run
    dsimp only
    repeat' split
    · exact .kept
    · rw [State.lineTo_only]; exact .kept
    · rw [State.raiseTrips_only, State.reevaluate_only, State.lineTo_only]; exact .kept
    · rw [State.reevaluate_only, State.lineTo_only]; exact .kept
  | haltChanged => rw [State.followHalt_only]; exact .kept
  | acknowledged => rw [State.acknowledge_only]; exact .kept

theorem State.configEvaluated_only (s : State) (items : List ConfigItem) : s.configEvaluated items =
    { s.reconfigured items with
      span := (s.configEvaluated items).span, watches := (s.configEvaluated items).watches,
      alerts := (s.configEvaluated items).alerts, attn := (s.configEvaluated items).attn } := by
  unfold State.configEvaluated
  split
  · rw [State.reevaluate_only]
  · rfl

/-- A CONFIG, up to what the Alert Unit and the gangs make of it: the configuration stored and the cranes re-evaluated. -/
theorem State.applyConfig_after (s : State) (items : List ConfigItem) : s.applyConfig items =
    { s.configEvaluated items with
      gangs := (s.applyConfig items).gangs, alerts := (s.applyConfig items).alerts,
      attn := (s.applyConfig items).attn, gangPort := (s.applyConfig items).gangPort } := by
  rw [State.applyConfig_eq, State.applyCheckInterval_only]
  split
  · rw [State.raise_only, State.raiseTrips_only]; rfl
  · rw [State.raiseTrips_only]; rfl

theorem State.applyConfig_only (s : State) (items : List ConfigItem) : s.applyConfig items =
    { s with
      config := (s.applyConfig items).config, cranes := (s.applyConfig items).cranes,
      span := (s.applyConfig items).span, watches := (s.applyConfig items).watches,
      latches := (s.applyConfig items).latches, halted := (s.applyConfig items).halted,
      gangs := (s.applyConfig items).gangs, alerts := (s.applyConfig items).alerts,
      attn := (s.applyConfig items).attn, gangPort := (s.applyConfig items).gangPort } := by
  rw [State.applyConfig_after, State.configEvaluated_only]
  rfl

theorem State.applyConfig_config (s : State) (items : List ConfigItem) :
    (s.applyConfig items).config = storeItems s.config items := by
  rw [State.applyConfig_after, State.configEvaluated_only]
  rfl

theorem State.applyConfig_crane (s : State) (items : List ConfigItem) (d : Slot) :
    (s.applyConfig items).crane d =
      if unfits s.config (storeItems s.config items) d then CraneRecord.reset else s.crane d := by
  rw [State.applyConfig_after, State.configEvaluated_only]
  exact entry_table8 ..

theorem SetupEvent.crane (h : SetupEvent s t) (d : Slot) : CraneStep s d (t.crane d) := by
  cases h with
  | poweredOn h lines =>
    have : (State.crane { State.poweredOn h lines with pending := s.pending } d) = CraneRecord.reset := by
      simp [State.crane, State.poweredOn]
    rw [this]
    exact .reset
  | setup => rw [State.enterSetup, State.reevaluate_crane]; exact .kept
  | operating => rw [State.enterOperating, State.reevaluate_crane]; exact .kept
  | configured =>
    rw [State.applyConfig_crane]
    split
    · exact .reset
    · exact .kept

theorem State.endFlight_crane (s : State) (c d : Slot) :
    (s.endFlight c).crane d = if d = c then { s.crane c with driftMark := false } else s.crane d := by
  rw [State.endFlight, State.reevaluate_crane]
  exact State.crane_setCrane ..

theorem State.groupTaken_crane (s : State) (c : Slot) (g : Group) (d : Slot) : (s.groupTaken c g).crane d =
    if d = c then { s.crane c with driftMark := false } else s.crane d := by
  rw [State.groupTaken, State.reevaluate_crane, State.crane_setCrane]
  simp [State.markRecords]

theorem State.landGroup_crane (s : State) (c : Slot) (f : Flight) (d : Slot) : (s.landGroup c f).1.crane d =
    if d = c then { s.crane c with driftMark := false } else s.crane d := by
  rw [State.landGroup]
  dsimp only
  have kept : ∀ d, (State.crane (if f.job.isDischarge = true then
      (s.landed f.job f.footprint (s.flightRecords c f)).1.releaseTruck c f
      else (s.landed f.job f.footprint (s.flightRecords c f)).1) d) = s.crane d := fun d => by
    split
    · rw [State.releaseTruck_crane, State.landed_crane]
    · rw [State.landed_crane]
  rw [State.endFlight_crane]
  simp only [State.removeRecords, State.setQueue_crane, State.appendLog_crane, State.releaseFootprint_crane, kept]

theorem State.giveUpGroup_crane (s : State) (c : Slot) (f : Flight) (d : Slot) : (s.giveUpGroup c f).crane d =
    if d = c then { s.crane c with driftMark := false } else s.crane d := by
  rw [State.giveUpGroup, State.endFlight_crane]
  simp only [State.releaseTruck_crane, State.releaseFootprint_crane, State.markRecords, State.setQueue_crane]

theorem State.forceGroup_crane (s : State) (c : Slot) (f : Flight) (d : Slot) : (s.forceGroup c f).crane d =
    if d = c then { s.crane c with driftMark := false } else s.crane d := by
  rw [State.forceGroup, State.endFlight_crane]
  simp only [State.removeRecords, State.setQueue_crane, State.appendLog_crane, State.releaseFootprint_crane,
    State.releaseTruck_crane]

theorem GroupEvent.crane (h : GroupEvent s t) (d : Slot) : CraneStep s d (t.crane d) := by
  cases h with
  | taken => exact CraneStep.markCleared.at (s.groupTaken_crane _ _) d
  | landed => exact CraneStep.markCleared.at (s.landGroup_crane _ _) d
  | givenUp => exact CraneStep.markCleared.at (s.giveUpGroup_crane _ _) d
  | forced => exact CraneStep.markCleared.at (s.forceGroup_crane _ _) d

theorem Happens.crane (h : Happens s t) (d : Slot) : CraneStep s d (t.crane d) := by
  cases h with
  | port h => rw [h.only]; exact .kept
  | span h => exact h.crane d
  | setup h => exact h.crane d
  | group h => exact h.crane d
  | truck h => rw [h.only]; exact .kept
  | gang h => rw [h.only]; exact .kept
  | berth h => rw [h.only]; exact .kept
  | store h => rw [h.only]; exact .kept

end CraneSteps

/-! ### Timers, unfitted slots and drift marks (R24, R29, R6, R28) -/

/-- The timers of a record are those of its slot state. -/
def CraneRecord.timed (r : CraneRecord) : Prop :=
  r.joinTimer.isSome = r.slotState.isJoining ∧ r.reportTimer.isSome = (r.slotState == .active)

/-- Each slot's timers agree with its state, an unfitted slot has the reset record, a drift mark a group in flight. -/
structure CranesAgree (s : State) : Prop where
  timed : ∀ c, (s.crane c).timed
  unfitted : ∀ c, s.fitted c = false → s.crane c = CraneRecord.reset
  drift : ∀ c, (s.crane c).driftMark = true → s.lifting c

theorem CraneStep.timed {s : State} {c : Slot} {r : CraneRecord} (h : CraneStep s c r) (hs : (s.crane c).timed) :
    r.timed := by
  obtain ⟨join, report⟩ := hs
  cases h with
  | kept => exact ⟨join, report⟩
  | reset => exact ⟨rfl, rfl⟩
  | markCleared => exact ⟨join, report⟩
  | joinStarted => exact ⟨rfl, rfl⟩
  | pageOne fitted awaited => exact ⟨rfl, by rw [report, awaited]; rfl⟩
  | pageTwo fitted awaited => exact ⟨rfl, by rw [report, awaited]; rfl⟩
  | joinDone fitted awaited => exact ⟨rfl, by rw [report, awaited]; rfl⟩
  | joinAbandoned joining =>
    refine ⟨rfl, ?_⟩
    rw [report]
    generalize (s.crane c).slotState = x at joining
    cases x with
    | joining _ => rfl
    | down | stale | active => cases joining
  | positionTaken fitted enrolled =>
    refine ⟨?_, rfl⟩
    rcases enrolled with h | h
    · rw [join, h]; rfl
    · rw [join, h]
  | reportsStopped timer =>
    refine ⟨?_, rfl⟩
    rw [report, beq_iff_eq] at timer
    rw [join, timer]
    rfl
  | lost => exact ⟨rfl, rfl⟩

theorem CraneStep.unfitted {s : State} {c : Slot} {r : CraneRecord} (h : CraneStep s c r) (fitted : s.fitted c = false)
    (hs : s.crane c = CraneRecord.reset) : r = CraneRecord.reset := by
  cases h with
  | kept => exact hs
  | reset => rfl
  | markCleared => rw [hs]; rfl
  | joinAbandoned joining => rw [hs] at joining; cases joining
  | reportsStopped timer => rw [hs] at timer; cases timer
  | joinStarted f | pageOne f | pageTwo f | joinDone f | positionTaken f | lost f => rw [f] at fitted; cases fitted

theorem CraneStep.driftMark {s : State} {c : Slot} {r : CraneRecord} (h : CraneStep s c r) (marked : r.driftMark = true) :
    (s.crane c).driftMark = true ∨ s.lifting c := by
  cases h with
  | reset => cases marked
  | markCleared => cases marked
  | positionTaken _ _ _ _ _ _ _ drifted => exact drifted marked
  | kept | joinStarted | pageOne | pageTwo | joinDone | joinAbandoned | reportsStopped | lost => exact .inl marked

/-! ### Which groups are in flight after an event -/

section Flights

variable {s t : State}

theorem State.groupTaken_flight (s : State) (c : Slot) (g : Group) (d : Slot) :
    (s.groupTaken c g).flight d = if d = c then some (s.newFlight g) else s.flight d := by
  rw [State.groupTaken, State.reevaluate_flight, State.setCrane_flight, State.flight_setFlight, State.claim_flight,
    State.markRecords, State.setQueue_flight]

theorem State.endFlight_flight (s : State) (c d : Slot) :
    (s.endFlight c).flight d = if d = c then none else s.flight d := by
  rw [State.endFlight, State.reevaluate_flight, State.setCrane_flight, State.flight_setFlight]

theorem State.landGroup_flight (s : State) (c : Slot) (f : Flight) (d : Slot) :
    (s.landGroup c f).1.flight d = if d = c then none else s.flight d := by
  rw [State.landGroup]
  dsimp only
  rw [State.endFlight_flight, State.removeRecords, State.setQueue_flight, State.appendLog_flight,
    State.releaseFootprint_flight]
  split
  · rfl
  · split
    · rw [State.releaseTruck_flight, State.landed_flight]
    · rw [State.landed_flight]

theorem State.giveUpGroup_flight (s : State) (c : Slot) (f : Flight) (d : Slot) :
    (s.giveUpGroup c f).flight d = if d = c then none else s.flight d := by
  rw [State.giveUpGroup, State.endFlight_flight, State.releaseTruck_flight, State.releaseFootprint_flight,
    State.markRecords, State.setQueue_flight]

theorem State.forceGroup_flight (s : State) (c : Slot) (f : Flight) (d : Slot) :
    (s.forceGroup c f).flight d = if d = c then none else s.flight d := by
  rw [State.forceGroup, State.endFlight_flight, State.removeRecords, State.setQueue_flight, State.appendLog_flight,
    State.releaseFootprint_flight, State.releaseTruck_flight]

end Flights

/-! ### Timers, unfitted slots and drift marks are kept -/

section Agree

variable {s t : State}

theorem CranesAgree.of_fields (hs : CranesAgree s) (h : (∀ c, t.crane c = s.crane c) ∧ (∀ c, t.fitted c = s.fitted c) ∧
    ∀ c, (t.flight c).isSome = (s.flight c).isSome) : CranesAgree t := by
  obtain ⟨crane, fitted, lifts⟩ := h
  refine ⟨fun c => by rw [crane]; exact hs.timed c, fun c => by rw [crane, fitted]; exact hs.unfitted c, fun c marked => ?_⟩
  rw [crane] at marked
  exact Option.isSome_iff_exists.1 (lifts c ▸ Option.isSome_iff_exists.2 (hs.drift c marked))

variable (hs : CranesAgree s)

include hs

/-- An event that leaves the fitted slots and the groups in flight alone. -/
theorem CranesAgree.of_steps (h : ∀ c, CraneStep s c (t.crane c)) (fitted : ∀ c, t.fitted c = s.fitted c)
    (flight : ∀ c, t.flight c = s.flight c) : CranesAgree t := by
  refine ⟨fun c => (h c).timed (hs.timed c), fun c unfitted => ?_, fun c marked => ?_⟩
  · rw [fitted] at unfitted
    exact (h c).unfitted unfitted (hs.unfitted c unfitted)
  · have lifts : s.lifting c := ((h c).driftMark marked).elim (hs.drift c) id
    rwa [State.lifting, flight]

/-- A group taken or ended clears its crane's drift mark. -/
theorem CranesAgree.of_group {c : Slot}
    (crane : ∀ d, t.crane d = if d = c then { s.crane c with driftMark := false } else s.crane d)
    (fitted : ∀ d, t.fitted d = s.fitted d) (flight : ∀ d, d ≠ c → t.flight d = s.flight d) : CranesAgree t := by
  refine ⟨fun d => ?_, fun d unfitted => ?_, fun d marked => ?_⟩
  · rw [crane]
    split
    · exact hs.timed c
    · exact hs.timed d
  · rw [fitted] at unfitted
    rw [crane]
    split
    · next h => rw [← h, hs.unfitted d unfitted]; rfl
    · exact hs.unfitted d unfitted
  · rw [crane] at marked
    split at marked
    · cases marked
    · next h => rw [State.lifting, flight d h]; exact hs.drift d marked

omit hs in
theorem cranesAgree_poweredOn (h : Level) (lines : Vector Level 7) : CranesAgree (State.poweredOn h lines) := by
  have reset : ∀ d, (State.poweredOn h lines).crane d = CraneRecord.reset :=
    fun d => by simp [State.crane, State.poweredOn]
  exact ⟨fun d => by rw [reset]; exact ⟨rfl, rfl⟩, fun d _ => reset d, fun d => by rw [reset]; exact fun h => by cases h⟩

theorem CranesAgree.setupEvent (h : SetupEvent s t) : CranesAgree t := by
  have steps := h.crane
  cases h with
  | poweredOn h lines =>
    obtain ⟨timed, unfitted, drift⟩ := cranesAgree_poweredOn h lines
    exact ⟨timed, unfitted, drift⟩
  | setup => exact hs.of_steps steps (fun c => State.reevaluate_fitted ..) (fun c => State.reevaluate_flight ..)
  | operating => exact hs.of_steps steps (fun c => State.reevaluate_fitted ..) (fun c => State.reevaluate_flight ..)
  | @configured items =>
    have crane := s.applyConfig_crane items
    have flight : ∀ d, (s.applyConfig items).flight d = s.flight d := fun d => by rw [State.applyConfig_only]; rfl
    have fitted : ∀ d, (s.applyConfig items).fitted d = (storeItems s.config items).isFitted d := fun d => by
      rw [State.fitted, State.applyConfig_config]
    refine ⟨fun d => (steps d).timed (hs.timed d), fun d unfitted => ?_, fun d marked => ?_⟩
    · rw [crane]
      split
      · rfl
      · next kept =>
        rw [fitted] at unfitted
        exact hs.unfitted d (by simpa [unfits, unfitted, State.fitted] using kept)
    · have lifts : s.lifting d := ((steps d).driftMark marked).elim (hs.drift d) id
      rwa [State.lifting, flight]

theorem CranesAgree.groupEvent (h : GroupEvent s t) : CranesAgree t := by
  have fitted : ∀ d, t.fitted d = s.fitted d := fun d => by rw [show t = _ from h.only]; rfl
  cases h with
  | taken => exact hs.of_group (s.groupTaken_crane _ _) fitted fun d h => by rw [State.groupTaken_flight, if_neg h]
  | landed => exact hs.of_group (s.landGroup_crane _ _) fitted fun d h => by rw [State.landGroup_flight, if_neg h]
  | givenUp => exact hs.of_group (s.giveUpGroup_crane _ _) fitted fun d h => by rw [State.giveUpGroup_flight, if_neg h]
  | forced => exact hs.of_group (s.forceGroup_crane _ _) fitted fun d h => by rw [State.forceGroup_flight, if_neg h]

theorem CranesAgree.happens (h : Happens s t) : CranesAgree t := by
  cases h with
  | port h => rw [h.only]; exact hs.of_fields ⟨fun _ => rfl, fun _ => rfl, fun _ => rfl⟩
  | span h => 
    have only := h.only
    exact hs.of_steps h.crane (fun c => by rw [only]; rfl) (fun c => by rw [only]; rfl)
  | setup h => exact hs.setupEvent h
  | group h => exact hs.groupEvent h
  | truck h => 
    have only := h.only
    exact hs.of_fields ⟨fun c => by rw [only]; rfl, fun c => by rw [only]; rfl, h.lifts⟩
  | gang h => rw [h.only]; exact hs.of_fields ⟨fun _ => rfl, fun _ => rfl, fun _ => rfl⟩
  | berth h => rw [h.only]; exact hs.of_fields ⟨fun _ => rfl, fun _ => rfl, fun _ => rfl⟩
  | store h => rw [h.only]; exact hs.of_fields ⟨fun _ => rfl, fun _ => rfl, fun _ => rfl⟩

end Agree

/-! ### Ranges of what is stored (R22, R26, R171, R173) -/

/-- What a crane has declared, and its last velocity, are in range (R22, R26). -/
structure CraneRecord.InRange (r : CraneRecord) : Prop where
  declared : ∀ g, r.declared = some g → geometryInRange g = true
  firstPage : ∀ one, r.slotState = .joining (.awaitPage2 one) → page1InRange one = true
  bothPages : ∀ one two, r.slotState = .joining (.awaitPage3 one two) →
    page1InRange one = true ∧ page2InRange two = true
  velocity : -255 ≤ r.lastVelocity ∧ r.lastVelocity ≤ 255

theorem heldVelocity_range (v : Int) : -255 ≤ heldVelocity v ∧ heldVelocity v ≤ 255 := by
  unfold heldVelocity hold
  omega

theorem CraneStep.inRange {s : State} {c : Slot} {r : CraneRecord} (h : CraneStep s c r) (hs : (s.crane c).InRange) :
    r.InRange := by
  obtain ⟨declared, firstPage, bothPages, velocity⟩ := hs
  cases h with
  | kept => exact ⟨declared, firstPage, bothPages, velocity⟩
  | markCleared => exact ⟨declared, firstPage, bothPages, velocity⟩
  | reset => exact ⟨by simp [CraneRecord.reset], by simp [CraneRecord.reset], by simp [CraneRecord.reset], by decide⟩
  | joinStarted => exact ⟨declared, by simp, by simp, velocity⟩
  | pageOne _ _ good => exact ⟨declared, by simpa using good, by simp, velocity⟩
  | pageTwo _ awaited good => exact ⟨declared, by simp, by simpa [good] using firstPage _ awaited, velocity⟩
  | joinDone _ awaited good =>
    obtain ⟨one, two⟩ := bothPages _ _ awaited
    exact ⟨by simp [geometryInRange, one, two, good], by simp, by simp, velocity⟩
  | positionTaken => exact ⟨declared, by simp, by simp, heldVelocity_range _⟩
  | joinAbandoned | reportsStopped | lost => exact ⟨declared, by simp, by simp, velocity⟩

theorem entry_putAt {α : Type} {n : Nat} {P : α → Prop} {v : Vector α n} (hv : ∀ k, P (entry v k)) {x : α} (hx : P x)
    (i : Nat) (k : Fin n) : P (entry (putAt v i x) k) := by
  unfold putAt
  split
  · rw [entry_put]
    split
    · exact hx
    · exact hv k
  · exact hv k

/-- An item in range stored leaves the configuration in range. -/
theorem ConfigInTables.configStore {cfg : ConfigSet} {i : ConfigItem} (h : ConfigInTables cfg)
    (good : configInRange i = true) : ConfigInTables (configStore cfg i) := by
  cases i with
  | park k v => exact { h with park := fun j => entry_putAt (P := (· ≤ 65535)) h.park (within_iff.1 good).2 k j }
  | westLimit v => exact { h with limits := ⟨(within_iff.1 good).2, h.limits.2⟩ }
  | eastLimit v => exact { h with limits := ⟨h.limits.1, (within_iff.1 good).2⟩ }
  | clearance v => exact { h with clearance := within_iff.1 good }
  | startMargin v => exact { h with startMargin := (within_iff.1 good).2 }
  | nearDistance v => exact { h with nearDistance := within_iff.1 good }
  | hysteresis v => exact { h with hysteresis := within_iff.1 good }
  | creepSpeed v => exact { h with creepSpeed := within_iff.1 good }
  | bayTolerance v => exact { h with bayTolerance := within_iff.1 good }
  | arriveTolerance v => exact { h with arriveTolerance := within_iff.1 good }
  | exclusionRadius v => exact { h with exclusionRadius := (within_iff.1 good).2 }
  | reportLimit v => exact { h with reportLimit := within_iff.1 good }
  | linkSilence v => exact { h with linkSilence := within_iff.1 good }
  | joinTimer v => exact { h with joinTimer := by simpa [Machine.configStore, configInRange, or_assoc] using good }
  | grace v => exact { h with grace := within_iff.1 good }
  | maxRecalls v => exact { h with maxRecalls := (within_iff.1 good).2 }
  | checkInterval v => exact { h with checkInterval := within_iff.1 good }
  | lookahead v => exact { h with lookahead := within_iff.1 good }
  | fitted v => exact { h with }
  | sensorMode k v => exact { h with }
  | haltPolarity v => exact { h with }
  | permitDrive v => exact { h with }
  | takeMode k v => exact { h with }
  | alertMask v => exact { h with }
  | unknown n => exact h

theorem ConfigInTables.storeItems {items : List ConfigItem} (good : ∀ i ∈ items, configInRange i = true)
    {cfg : ConfigSet} (h : ConfigInTables cfg) : ConfigInTables (storeItems cfg items) := by
  induction items generalizing cfg with
  | nil => exact h
  | cons i rest ih => exact ih (fun j hj => good j (by simp [hj])) (h.configStore (good i (by simp)))

theorem configInTables_reset : ConfigInTables ConfigSet.reset := by
  constructor <;> simp [ConfigSet.reset]

section Ranges

variable {s t : State}

theorem ValuesInRange.crane (hs : ValuesInRange s) (c : Slot) : (s.crane c).InRange :=
  ⟨hs.declared c, hs.firstPage c, hs.bothPages c, hs.velocity c⟩

theorem ValuesInRange.of_steps (hs : ValuesInRange s) (h : ∀ c, CraneStep s c (t.crane c))
    (overrides : ∀ c g, t.override c = some g → geometryInRange g = true) (config : ConfigInTables t.config) :
    ValuesInRange t :=
  have crane := fun c => (h c).inRange (hs.crane c)
  ⟨overrides, fun c => (crane c).declared, fun c => (crane c).firstPage, fun c => (crane c).bothPages,
    fun c => (crane c).velocity, config⟩

theorem SpanEvent.override (h : SpanEvent s t) (c : Slot) :
    t.override c = s.override c ∨ ∀ g, t.override c = some g → geometryInRange g = true := by
  cases h with
  | @overrideStored d o _ good =>
    rw [State.overrideStored, State.reevaluate_override]
    show entry (put s.overrides d o) c = _ ∨ ∀ g, entry (put s.overrides d o) c = _ → _
    rw [entry_put]
    split
    · exact .inr good
    · exact .inl rfl
  | joinStarted => rw [State.startJoin, State.reevaluate_override]; exact .inl rfl
  | pageOne => exact .inl rfl
  | pageTwo => exact .inl rfl
  | joinDone => rw [State.joinDone, State.reevaluate_override]; exact .inl rfl
  | joinAbandoned => rw [State.abandonJoin_only]; exact .inl rfl
  | positionTaken => rw [State.takePosition_only]; exact .inl rfl
  | reportsStopped => rw [State.reevaluate_override]; exact .inl rfl
  | craneLost => rw [State.craneLost, State.reevaluate_override, State.raise_override]; exact .inl rfl
  | goalGranted => rw [State.grantGoal, State.reevaluate_override]; exact .inl rfl
  | goalCancelled =>
    unfold State.cancelGoal
    split
    · rw [State.reevaluate_override]; exact .inl rfl
    · exact .inl rfl
  | lineChanged run =>
    obtain rfl := Host.Outcome.next.inj run
    dsimp only
    left
    repeat' split
    · rfl
    · rw [State.lineTo_only]; rfl
    · rw [State.raiseTrips_only, State.reevaluate_only, State.lineTo_only]; rfl
    · rw [State.reevaluate_only, State.lineTo_only]; rfl
  | haltChanged => rw [State.followHalt_only]; exact .inl rfl
  | acknowledged => rw [State.acknowledge_only]; exact .inl rfl

variable (hs : ValuesInRange s)

include hs

theorem ValuesInRange.setupEvent (h : SetupEvent s t) : ValuesInRange t := by
  refine hs.of_steps h.crane ?_ ?_
  · cases h with
    | poweredOn h lines => intro c g hg; simp [State.override, State.poweredOn] at hg
    | setup => rw [State.enterSetup, State.reevaluate_only]; exact hs.overrides
    | operating => rw [State.enterOperating, State.reevaluate_only]; exact hs.overrides
    | configured => rw [State.applyConfig_only]; exact hs.overrides
  · cases h with
    | poweredOn h lines => exact configInTables_reset
    | setup => rw [State.enterSetup, State.reevaluate_config]; exact hs.config
    | operating => rw [State.enterOperating, State.reevaluate_config]; exact hs.config
    | configured good =>
      obtain ⟨-, -, -, range⟩ := configRefusal_eq_none good
      rw [State.applyConfig_config]
      exact hs.config.storeItems range

theorem ValuesInRange.happens (h : Happens s t) : ValuesInRange t := by
  cases h with
  | setup h => exact hs.setupEvent h
  | span h =>
    refine hs.of_steps h.crane (fun c g hg => ?_) (by rw [h.only]; exact hs.config)
    rcases h.override c with same | good
    · exact hs.overrides c g (same ▸ hg)
    · exact good g hg
  | port h => exact hs.of_steps (Happens.port h).crane (by rw [h.only]; exact hs.overrides) (by rw [h.only]; exact hs.config)
  | group h =>
    exact hs.of_steps h.crane (by rw [show t = _ from h.only]; exact hs.overrides)
      (by rw [show t = _ from h.only]; exact hs.config)
  | truck h => exact hs.of_steps (Happens.truck h).crane (by rw [h.only]; exact hs.overrides) (by rw [h.only]; exact hs.config)
  | gang h => exact hs.of_steps (Happens.gang h).crane (by rw [h.only]; exact hs.overrides) (by rw [h.only]; exact hs.config)
  | berth h => exact hs.of_steps (Happens.berth h).crane (by rw [h.only]; exact hs.overrides) (by rw [h.only]; exact hs.config)
  | store h => exact hs.of_steps (Happens.store h).crane (by rw [h.only]; exact hs.overrides) (by rw [h.only]; exact hs.config)

end Ranges

/-! ### Both together -/

theorem unitsAgree_iff {s : State} :
    UnitsAgree s ↔ AttnAgrees s ∧ LinesAgree s ∧ PortsAgree s ∧ CranesAgree s := by
  constructor
  · rintro ⟨attn, halt, latch, silence, outbox, joinTimer, reportTimer, unfitted, drift⟩
    exact ⟨attn, ⟨halt, latch⟩, ⟨silence, outbox⟩, ⟨fun c => ⟨joinTimer c, reportTimer c⟩, unfitted, drift⟩⟩
  · rintro ⟨attn, ⟨halt, latch⟩, ⟨silence, outbox⟩, ⟨timed, unfitted, drift⟩⟩
    exact ⟨attn, halt, latch, silence, outbox, fun c => (timed c).1, fun c => (timed c).2, unfitted, drift⟩

theorem UnitsAgree.happens {s t : State} (hs : UnitsAgree s) (h : Happens s t) : UnitsAgree t := by
  obtain ⟨attn, lines, ports, cranes⟩ := unitsAgree_iff.1 hs
  exact unitsAgree_iff.2 ⟨attn.happens h, lines.happens h, ports.happens h, cranes.happens h⟩

/-- Settles O11: each event keeps the agreement of its own block, and a step is a run of events. -/
theorem stepKeepsUnitsAgree : Obligations.StepKeepsUnitsAgree := by
  constructor
  · intro s t hs run
    refine step_keeps (fun s q hs => ?_) (fun s t hs h => hs.happens h) hs run
    exact ⟨hs.attn, hs.halt, hs.latch, hs.silence, hs.outbox, hs.joinTimer, hs.reportTimer, hs.unfitted, hs.drift⟩
  · intro s t hs run
    refine step_keeps (fun s q hs => ?_) (fun s t hs h => hs.happens h) hs run
    exact ⟨hs.overrides, hs.declared, hs.firstPage, hs.bothPages, hs.velocity, hs.config⟩

end Sys2Proof.Machine

/-! PROOFS. What every step keeps of the stands and trucks (chapter 8): row by row, the stands of a slot agree with the truck of
its group in flight. -/

namespace Sys2Proof.Machine

/-! ### One slot's stands and its group -/

/-- A stand that no truck is called to and none stands at. -/
def Stand.Quiet (x : Stand) : Prop := x.name ≠ .called ∧ x.name ≠ .occupied

/-- The truck state and lane of a group agree with the stands of its crane (Table 7.2). -/
def truckFits (f : Flight) (row : Lane → Stand) : Prop :=
  match f.truck with
  | .notNeeded => f.job.isHatch = true ∧ f.lane = none
  | .pending | .failed => f.job.isHatch = false ∧ f.lane = none
  | .called => f.job.isHatch = false ∧ ∃ l k due deadline held, f.lane = some l ∧ row l = .called k due deadline held
  | .present => f.job.isHatch = false ∧ ∃ l k id, f.lane = some l ∧ row l = .occupied k id
  | .departed => f.job.isLoad = true

/-- The stands of one slot agree with its group in flight (R139, Table 7.2, R128). -/
structure RowAgrees (lift : Option Flight) (row : Lane → Stand) : Prop where
  called : ∀ l k due deadline held, row l = .called k due deadline held →
    ∃ f, lift = some f ∧ f.truck = .called ∧ f.lane = some l ∧ k.tags = f.tags
  occupied : ∀ l k id, row l = .occupied k id →
    ∃ f, lift = some f ∧ f.truck = .present ∧ f.lane = some l ∧ f.truckId = some id ∧ k.tags = f.tags
  trucks : ∀ f, lift = some f → truckFits f row
  departed : ∀ f, lift = some f → (f.truck = .departed ↔ f.job.isLoad = true ∧ f.phase = .aloft)

theorem standsAgree_iff {s : State} :
    StandsAgree s ↔ (∀ c, RowAgrees (s.flight c) (s.stand c)) ∧ 1 ≤ s.callCounter ∧ s.callCounter ≤ 65535 := by
  constructor
  · rintro ⟨called, occupied, trucks, departed, counter⟩
    exact ⟨fun c => ⟨called c, occupied c, trucks c, departed c⟩, counter⟩
  · rintro ⟨rows, counter⟩
    exact ⟨fun c => (rows c).called, fun c => (rows c).occupied, fun c => (rows c).trucks, fun c => (rows c).departed,
      counter⟩

section Rows

variable {f : Flight} {row new : Lane → Stand} {l : Lane}

theorem rowAgrees_none (quiet : ∀ l, (row l).Quiet) : RowAgrees none row where
  called l _ _ _ _ h := absurd (congrArg Stand.name h) (quiet l).1
  occupied l _ _ h := absurd (congrArg Stand.name h) (quiet l).2
  trucks _ h := by cases h
  departed _ h := by cases h

theorem rowAgrees_quiet (quiet : ∀ l, (row l).Quiet) (fits : truckFits f row)
    (departed : f.truck = .departed ↔ f.job.isLoad = true ∧ f.phase = .aloft) : RowAgrees (some f) row where
  called l _ _ _ _ h := absurd (congrArg Stand.name h) (quiet l).1
  occupied l _ _ h := absurd (congrArg Stand.name h) (quiet l).2
  trucks _ h := Option.some.inj h ▸ fits
  departed _ h := Option.some.inj h ▸ departed

/-- A group whose truck is asked for, or is given up: no stand is busy. -/
theorem rowAgrees_waiting (quiet : ∀ l, (row l).Quiet) (truck : f.truck = .pending ∨ f.truck = .failed)
    (lane : f.lane = none) (needed : f.job.isHatch = false) (grounded : ¬ (f.job.isLoad = true ∧ f.phase = .aloft)) :
    RowAgrees (some f) row := by
  refine rowAgrees_quiet quiet ?_ ⟨fun h => ?_, fun h => absurd h grounded⟩
  · unfold truckFits
    rcases truck with h | h <;> rw [h] <;> exact ⟨needed, lane⟩
  · rcases truck with e | e <;> rw [e] at h <;> cases h

theorem RowAgrees.quiet_none (h : RowAgrees none row) (l : Lane) : (row l).Quiet := by
  have called := h.called l
  have occupied := h.occupied l
  cases hr : row l with
  | free => exact ⟨nofun, nofun⟩
  | released => exact ⟨nofun, nofun⟩
  | called k due deadline held => simpa using called _ _ _ _ hr
  | occupied k id => simpa using occupied _ _ hr

/-- A busy stand is that of the group's lane, and the group's truck is called or present. -/
theorem RowAgrees.busy (h : RowAgrees (some f) row) (busy : ¬ (row l).Quiet) :
    f.lane = some l ∧ (f.truck = .called ∨ f.truck = .present) := by
  have called := h.called l
  have occupied := h.occupied l
  cases hr : row l with
  | free => exact absurd ⟨nofun, nofun⟩ (hr ▸ busy)
  | released => exact absurd ⟨nofun, nofun⟩ (hr ▸ busy)
  | called k due deadline held =>
    obtain ⟨_, ⟨⟩, truck, lane, -⟩ := called _ _ _ _ hr
    exact ⟨lane, .inl truck⟩
  | occupied k id =>
    obtain ⟨_, ⟨⟩, truck, lane, -⟩ := occupied _ _ hr
    exact ⟨lane, .inr truck⟩

theorem RowAgrees.quiet_of_truck (h : RowAgrees (some f) row) (called : f.truck ≠ .called) (present : f.truck ≠ .present)
    (l : Lane) : (row l).Quiet :=
  Classical.byContradiction fun busy => (h.busy busy).2.elim called present

/-- All stands but the one of the group's lane are quiet. -/
theorem RowAgrees.quiet_other (h : RowAgrees (some f) row) (lane : f.lane = some l) {m : Lane} (hm : m ≠ l) :
    (row m).Quiet :=
  Classical.byContradiction fun busy => hm (Option.some.inj ((h.busy busy).1.symm.trans lane))

theorem Stand.not_quiet {x : Stand} (h : x.name = .called ∨ x.name = .occupied) : ¬ x.Quiet :=
  fun quiet => h.elim quiet.1 quiet.2

/-- A group with a truck called or present needs one, and is no LOAD aloft. -/
theorem RowAgrees.served (h : RowAgrees (some f) row) (truck : f.truck = .called ∨ f.truck = .present) :
    f.job.isHatch = false ∧ ¬ (f.job.isLoad = true ∧ f.phase = .aloft) := by
  have fits := h.trucks f rfl
  have departed := h.departed f rfl
  unfold truckFits at fits
  rcases truck with e | e
  · rw [e] at fits departed
    exact ⟨fits.1, fun aloft => by cases departed.2 aloft⟩
  · rw [e] at fits departed
    exact ⟨fits.1, fun aloft => by cases departed.2 aloft⟩

/-- With the stand of the group's lane quiet, every stand is. -/
theorem RowAgrees.quiet_update (h : RowAgrees (some f) row) (lane : f.lane = some l) (quiet : (new l).Quiet)
    (other : ∀ m, m ≠ l → new m = row m) (m : Lane) : (new m).Quiet := by
  by_cases e : m = l
  · rw [e]; exact quiet
  · rw [other m e]; exact h.quiet_other lane e

/-- The truck of the group sent away or never called again: every stand of the slot is quiet. -/
theorem RowAgrees.waiting (h : RowAgrees (some f) row) (busy : ¬ (row l).Quiet) (quiet : (new l).Quiet)
    (other : ∀ m, m ≠ l → new m = row m) {g : Flight} (truck : g.truck = .pending ∨ g.truck = .failed)
    (lane : g.lane = none) (job : g.job = f.job) (phase : g.phase = f.phase) : RowAgrees (some g) new := by
  obtain ⟨at_, served⟩ := h.busy busy
  obtain ⟨needed, grounded⟩ := h.served served
  exact rowAgrees_waiting (h.quiet_update at_ quiet other) truck lane (job ▸ needed) (by rw [job, phase]; exact grounded)

/-- A quiet stand that changes into another quiet one changes nothing. -/
theorem RowAgrees.freed {lift : Option Flight} (h : RowAgrees lift row) (was : (row l).Quiet) (now : (new l).Quiet)
    (other : ∀ m, m ≠ l → new m = row m) : RowAgrees lift new := by
  have same : ∀ m, ¬ (row m).Quiet ∨ ¬ (new m).Quiet → new m = row m := fun m busy => by
    refine other m fun e => ?_
    subst e
    exact busy.elim (absurd was) (absurd now)
  constructor
  · intro m k due deadline held hm
    exact h.called m k due deadline held (by rw [← same m (.inr (Stand.not_quiet (.inl (by rw [hm]; rfl)))), hm])
  · intro m k id hm
    exact h.occupied m k id (by rw [← same m (.inr (Stand.not_quiet (.inr (by rw [hm]; rfl)))), hm])
  · intro f hf
    have fits := h.trucks f hf
    unfold truckFits at fits ⊢
    split at fits
    · exact fits
    · exact fits
    · exact fits
    · obtain ⟨job, m, k, due, deadline, held, lane, hm⟩ := fits
      exact ⟨job, m, k, due, deadline, held, lane, by rw [same m (.inl (Stand.not_quiet (.inl (by rw [hm]; rfl)))), hm]⟩
    · obtain ⟨job, m, k, id, lane, hm⟩ := fits
      exact ⟨job, m, k, id, lane, by rw [same m (.inl (Stand.not_quiet (.inr (by rw [hm]; rfl)))), hm]⟩
    · exact fits
  · exact h.departed

/-- A call made for a group that asks for a truck (R145). -/
theorem RowAgrees.callMade (h : RowAgrees (some f) row) (pending : f.truck = .pending) {k : Call} {due deadline : Time}
    {held : Bool} (tags : k.tags = f.tags) (called : new l = .called k due deadline held)
    (other : ∀ m, m ≠ l → new m = row m) : RowAgrees (some { f with truck := .called, lane := some l }) new := by
  have quiet : ∀ m, m ≠ l → (new m).Quiet := fun m hm =>
    other m hm ▸ h.quiet_of_truck (by rw [pending]; nofun) (by rw [pending]; nofun) m
  have fits := h.trucks f rfl
  have departed := h.departed f rfl
  unfold truckFits at fits
  rw [pending] at fits departed
  constructor
  · intro m k' due' deadline' held' hm
    by_cases e : m = l
    · subst e
      rw [called] at hm
      obtain ⟨rfl, -⟩ := Stand.called.inj hm
      exact ⟨_, rfl, rfl, rfl, tags⟩
    · exact absurd (by rw [hm]; rfl) (quiet m e).1
  · intro m k' id hm
    by_cases e : m = l
    · subst e
      rw [called] at hm
      cases hm
    · exact absurd (by rw [hm]; rfl) (quiet m e).2
  · rintro _ ⟨⟩
    exact ⟨fits.1, l, k, due, deadline, held, rfl, called⟩
  · rintro _ ⟨⟩
    exact ⟨nofun, fun aloft => by cases departed.2 aloft⟩

/-- A called truck arrives (R147). -/
theorem RowAgrees.arrived (h : RowAgrees (some f) row) {k : Call} {due deadline : Time} {held : Bool}
    (called : row l = .called k due deadline held) {truck : Nat} (occupied : new l = .occupied k truck)
    (other : ∀ m, m ≠ l → new m = row m) : RowAgrees (some (f.arrived truck)) new := by
  obtain ⟨_, ⟨⟩, state, lane, tags⟩ := h.called l _ _ _ _ called
  obtain ⟨needed, grounded⟩ := h.served (.inl state)
  have quiet : ∀ m, m ≠ l → (new m).Quiet := fun m hm => other m hm ▸ h.quiet_other lane hm
  constructor
  · intro m k' due' deadline' held' hm
    by_cases e : m = l
    · subst e
      rw [occupied] at hm
      cases hm
    · exact absurd (by rw [hm]; rfl) (quiet m e).1
  · intro m k' id hm
    by_cases e : m = l
    · subst e
      rw [occupied] at hm
      obtain ⟨rfl, rfl⟩ := Stand.occupied.inj hm
      exact ⟨_, rfl, rfl, lane, rfl, tags⟩
    · exact absurd (by rw [hm]; rfl) (quiet m e).2
  · rintro _ ⟨⟩
    exact ⟨needed, l, k, truck, lane, occupied⟩
  · rintro _ ⟨⟩
    exact ⟨nofun, fun aloft => absurd aloft grounded⟩

/-- A group lifted keeps its truck, unless it is a LOAD: then its truck has departed (R128). -/
theorem RowAgrees.lifted (h : RowAgrees (some f) row) (discharge : f.job.isLoad = false) :
    RowAgrees (some f.lifted) row := by
  have same : f.lifted = { f with phase := .aloft } := by rw [Flight.lifted, if_neg (by simp [discharge])]
  have departed := h.departed f rfl
  rw [same]
  constructor
  · intro l k due deadline held hl
    obtain ⟨_, ⟨⟩, truck, lane, tags⟩ := h.called l k due deadline held hl
    exact ⟨_, rfl, truck, lane, tags⟩
  · intro l k id hl
    obtain ⟨_, ⟨⟩, truck, lane, truckId, tags⟩ := h.occupied l k id hl
    exact ⟨_, rfl, truck, lane, truckId, tags⟩
  · rintro _ ⟨⟩
    exact h.trucks f rfl
  · rintro _ ⟨⟩
    simpa [discharge] using departed

theorem RowAgrees.locked (h : RowAgrees (some f) row) (phase : f.phase = .assigned) :
    RowAgrees (some { f with phase := .locked }) row := by
  have departed := h.departed f rfl
  constructor
  · intro l k due deadline held hl
    obtain ⟨_, ⟨⟩, truck, lane, tags⟩ := h.called l k due deadline held hl
    exact ⟨_, rfl, truck, lane, tags⟩
  · intro l k id hl
    obtain ⟨_, ⟨⟩, truck, lane, truckId, tags⟩ := h.occupied l k id hl
    exact ⟨_, rfl, truck, lane, truckId, tags⟩
  · rintro _ ⟨⟩
    exact h.trucks f rfl
  · rintro _ ⟨⟩
    simpa [phase] using departed

theorem RowAgrees.departed_lifted (quiet : ∀ l, (row l).Quiet) (load : f.job.isLoad = true) :
    RowAgrees (some f.lifted) row := by
  have same : f.lifted = { f with phase := .aloft, truck := .departed, lane := f.laneAloft } := by
    rw [Flight.lifted, if_pos load]
  rw [same]
  exact rowAgrees_quiet quiet load ⟨fun _ => ⟨load, rfl⟩, fun _ => rfl⟩

end Rows

/-! ### The stands after an event on one of them -/

section Stands

variable {s t : State} {c : Slot} {l : Lane}

theorem State.setStand_stand_other {r : Stand} {m : Lane} (h : m ≠ l) : (s.setStand c l r).stand c m = s.stand c m := by
  simp [State.stand_setStand, h]

theorem State.setStand_row_other {r : Stand} {d : Slot} (h : d ≠ c) : (s.setStand c l r).stand d = s.stand d := by
  funext m
  simp [State.stand_setStand, h]

theorem State.cancelStand_stand (m : Lane) (called : (s.stand c l).name = .called) :
    (s.cancelStand c l).stand c m = if m = l then .free else s.stand c m := by
  unfold State.cancelStand
  split
  · simp [State.stand_setStand]
  · next h =>
    cases hl : s.stand c l with
    | called k due deadline held => exact absurd hl (h k due deadline held)
    | free | occupied | released => rw [hl] at called; cases called

theorem State.cancelStand_row_other {d : Slot} (h : d ≠ c) : (s.cancelStand c l).stand d = s.stand d := by
  funext m
  exact State.cancelStand_stand_other fun e => h (Prod.mk.inj e).1

theorem State.releaseTruck_row_other {f : Flight} {d : Slot} (h : d ≠ c) :
    (s.releaseTruck c f).stand d = s.stand d := by
  rcases s.releaseTruck_cases c f with same | ⟨_, _, _, _, _, -, -, -, cancels⟩ | ⟨_, _, _, -, -, -, departs⟩
  · rw [same]
  · funext m; simp [cancels, State.stand_setStand, h]
  · funext m; simp [departs, State.stand_setStand, h]

/-- Once the truck of a group is sent away, every stand of its slot is quiet (R136). -/
theorem RowAgrees.released {f : Flight} (h : RowAgrees (some f) (s.stand c)) (m : Lane) :
    ((s.releaseTruck c f).stand c m).Quiet := by
  have fits := h.trucks f rfl
  unfold truckFits at fits
  by_cases busy : f.truck = .called ∨ f.truck = .present
  · rcases busy with truck | truck
    · rw [truck] at fits
      obtain ⟨-, l, k, due, deadline, held, lane, called⟩ := fits
      have released : s.releaseTruck c f = (s.setStand c l .free).send .lane (.cancel k.number c l) := by
        simp only [State.releaseTruck, lane, truck, State.cancelStand, called]
      rw [released, State.send_stand]
      refine h.quiet_update lane (new := (s.setStand c l .free).stand c) ?_ (fun _ => State.setStand_stand_other) m
      rw [State.stand_setStand_same]
      exact ⟨nofun, nofun⟩
    · rw [truck] at fits
      obtain ⟨-, l, k, id, lane, occupied⟩ := fits
      have released : s.releaseTruck c f =
          (s.setStand c l (.released k.number id)).send .lane (.depart k.number c l id) := by
        simp only [State.releaseTruck, lane, truck, State.departStand, occupied]
      rw [released, State.send_stand]
      refine h.quiet_update lane (new := (s.setStand c l _).stand c) ?_ (fun _ => State.setStand_stand_other) m
      rw [State.stand_setStand_same]
      exact ⟨nofun, nofun⟩
  · obtain ⟨called, present⟩ := not_or.1 busy
    have same : s.releaseTruck c f = s := by
      rcases s.releaseTruck_cases c f with same | ⟨_, _, _, _, _, truck, -⟩ | ⟨_, _, _, truck, -⟩
      · exact same
      · exact absurd truck called
      · exact absurd truck present
    rw [same]
    exact h.quiet_of_truck called present m

/-- An event at the stands and the group of one slot. -/
theorem StandsAgree.of_row (hs : StandsAgree s) (row : RowAgrees (t.flight c) (t.stand c))
    (other : ∀ d, d ≠ c → t.flight d = s.flight d ∧ t.stand d = s.stand d)
    (counter : 1 ≤ t.callCounter ∧ t.callCounter ≤ 65535) : StandsAgree t := by
  obtain ⟨rows, -⟩ := standsAgree_iff.1 hs
  refine standsAgree_iff.2 ⟨fun d => ?_, counter⟩
  by_cases h : d = c
  · exact h ▸ row
  · obtain ⟨flight, stand⟩ := other d h
    rw [flight, stand]
    exact rows d

theorem StandsAgree.of_fields (hs : StandsAgree s)
    (h : t.flights = s.flights ∧ t.stands = s.stands ∧ t.callCounter = s.callCounter) : StandsAgree t := by
  obtain ⟨flights, stands, counter⟩ := h
  obtain ⟨rows, range⟩ := standsAgree_iff.1 hs
  refine standsAgree_iff.2 ⟨fun c => ?_, counter ▸ range⟩
  have flight : t.flight c = s.flight c := by rw [State.flight, flights]; rfl
  have stand : t.stand c = s.stand c := by funext l; rw [State.stand, stands]; rfl
  rw [flight, stand]
  exact rows c

theorem nextCall_range {n : Nat} (h : n ≤ 65535) : 1 ≤ nextCall n ∧ nextCall n ≤ 65535 := by
  unfold nextCall
  split <;> omega

variable (hs : StandsAgree s)

include hs

theorem StandsAgree.row (c : Slot) : RowAgrees (s.flight c) (s.stand c) := (standsAgree_iff.1 hs).1 c

theorem StandsAgree.row_of {f : Flight} (lift : s.flight c = some f) : RowAgrees (some f) (s.stand c) := lift ▸ hs.row c

/-- A busy stand has its crane's group in flight. -/
theorem StandsAgree.lifting (busy : (s.stand c l).name = .called ∨ (s.stand c l).name = .occupied) :
    ∃ f, s.flight c = some f := by
  refine Option.ne_none_iff_exists'.1 fun idle => ?_
  have row := hs.row c
  rw [idle] at row
  exact Stand.not_quiet busy (row.quiet_none l)

theorem StandsAgree.attempt (c : Slot) : StandsAgree (s.attempt c) := by
  rcases s.attempt_cases c with same | ⟨f, m, rest, l, lift, pending, -, -, chosen, made⟩
  · rw [same]; exact hs
  · have range := nextCall_range hs.counter.2
    have flight : ∀ d, (s.attempt c).flight d =
        if d = c then some { f with truck := .called, lane := some l } else s.flight d := fun d => by
      rw [made, State.makeCall, State.send_flight, State.flight_setFlight]; rfl
    have counter : (s.attempt c).callCounter = nextCall s.callCounter := by
      rw [made, State.makeCall, State.send_callCounter]; rfl
    have stand : ∀ d m, (s.attempt c).stand d m = if d = c ∧ m = l then (s.attempt c).stand c l else s.stand d m :=
      fun d m => by
        rw [made, State.makeCall]
        simp only [State.send_stand, State.setFlight_stand, State.stand_setStand]
        split
        · simp
        · rfl
    refine hs.of_row (c := c) ?_ (fun d hd => ⟨by rw [flight, if_neg hd], ?_⟩) (counter ▸ range)
    · rw [flight, if_pos rfl]
      have called : ∃ k due deadline held, (s.attempt c).stand c l = .called k due deadline held ∧ k.tags = f.tags := by
        rw [made, State.makeCall]
        simp only [State.send_stand, State.setFlight_stand, State.stand_setStand_same]
        exact ⟨_, _, _, _, rfl, rfl⟩
      obtain ⟨k, due, deadline, held, called, tags⟩ := called
      exact (hs.row_of lift).callMade pending tags called fun m hm => by rw [stand, if_neg (by simp [hm])]
    · funext m
      rw [stand, if_neg (by simp [hd])]

end Stands

end Sys2Proof.Machine

/-! PROOFS. Stands, trucks and groups agree after every event. -/

namespace Sys2Proof.Machine

section StandEvents

variable {s t : State}

/-- A slot's stands and group changed, and every other slot left alone. -/
theorem StandsAgree.of_own {c : Slot} (hs : StandsAgree s) {lift : Option Flight}
    (flight : ∀ d, t.flight d = if d = c then lift else s.flight d) (row : RowAgrees lift (t.stand c))
    (other : ∀ d, d ≠ c → t.stand d = s.stand d) (counter : t.callCounter = s.callCounter) : StandsAgree t :=
  hs.of_row (c := c) (by rw [flight, if_pos rfl]; exact row) (fun d h => ⟨by rw [flight, if_neg h], other d h⟩)
    (counter ▸ hs.counter)

variable (hs : StandsAgree s)

include hs

theorem StandsAgree.liftGroup {c : Slot} {f : Flight} (lift : s.flight c = some f) :
    StandsAgree (s.liftGroup c f) := by
  have row := hs.row_of lift
  cases load : f.job.isLoad with
  | false =>
    rw [State.liftGroup, load]
    exact hs.of_own (State.flight_setFlight s c · _) (row.lifted load) (fun _ _ => rfl) rfl
  | true =>
    rw [State.liftGroup, load]
    refine hs.of_own (c := c) (lift := some f.lifted) (fun d => ?_) (.departed_lifted ?_ load) (fun d h => ?_) ?_
    · exact (State.releaseTruck_flight ..).trans (State.flight_setFlight ..)
    · exact RowAgrees.released (s := s.setFlight c (some f.lifted)) row
    · exact State.releaseTruck_row_other (s := s.setFlight c (some f.lifted)) h
    · rw [if_pos rfl, State.releaseTruck_only]; rfl

theorem StandsAgree.closeCall {c : Slot} {l : Lane} (called : (s.stand c l).name = .called) :
    StandsAgree (s.closeCall (c, l)) := by
  obtain ⟨f, lift⟩ := hs.lifting (.inl called)
  have closed : s.closeCall (c, l) = (s.cancelStand c l).setFlight c (some f.askedAgain) := by
    rw [State.closeCall]
    dsimp only
    rw [lift]
    rfl
  have flight : ∀ d, (s.closeCall (c, l)).flight d = if d = c then some f.askedAgain else s.flight d := fun d => by
    rw [closed, State.flight_setFlight, State.cancelStand_only]; rfl
  have stand : ∀ d, (s.closeCall (c, l)).stand d = (s.cancelStand c l).stand d := fun d => by rw [closed]; rfl
  refine hs.of_own flight ?_ (fun d h => (stand d).trans (State.cancelStand_row_other h)) ?_
  · rw [stand]
    refine (hs.row_of lift).waiting (l := l) (Stand.not_quiet (.inl called)) ?_ (fun m h => ?_) (.inl rfl) rfl rfl rfl
    · rw [State.cancelStand_stand _ called, if_pos rfl]
      exact ⟨nofun, nofun⟩
    · rw [State.cancelStand_stand _ called, if_neg h]
  · rw [closed, State.cancelStand_only]; rfl

/-- The stand of a busy lane freed, and its group's truck asked for again or given up. -/
theorem StandsAgree.freeBusy {c : Slot} {l : Lane} {f g : Flight}
    (busy : (s.stand c l).name = .called ∨ (s.stand c l).name = .occupied) (lift : s.flight c = some f)
    (truck : g.truck = .pending ∨ g.truck = .failed) (lane : g.lane = none) (job : g.job = f.job)
    (phase : g.phase = f.phase) : StandsAgree ((s.setStand c l .free).setFlight c (some g)) := by
  refine hs.of_own (State.flight_setFlight _ c · _) ?_ (fun d h => State.setStand_row_other h) rfl
  exact (hs.row_of lift).waiting (Stand.not_quiet busy)
    (by show ((s.setStand c l .free).stand c l).Quiet; rw [State.stand_setStand_same]; exact ⟨nofun, nofun⟩)
    (fun m h => State.setStand_stand_other h) truck lane job phase

theorem StandsAgree.truckEvent (h : TruckEvent s t) : StandsAgree t := by
  cases h with
  | @locked c f lift phase =>
    exact hs.of_own (State.flight_setFlight s c · _) ((hs.row_of lift).locked phase) (fun _ _ => rfl) rfl
  | lifted lift => exact hs.liftGroup lift
  | attempted c => exact hs.attempt c
  | opened => exact hs.of_fields ⟨rfl, rfl, rfl⟩
  | closed called => exact hs.closeCall called
  | @arrived c l k due deadline held truck called =>
    obtain ⟨f, lift⟩ := hs.lifting (.inl (by rw [called]; rfl))
    have took : s.takeArrival c l k truck = ((s.setStand c l (.occupied k truck)).setFlight c
        (some (f.arrived truck))).send (.crane c) (.standReady f.first l truck) := by
      rw [State.takeArrival, lift]
      rfl
    rw [took]
    refine StandsAgree.of_fields (s := (s.setStand c l (.occupied k truck)).setFlight c (some (f.arrived truck))) ?_
      ⟨by simp, by simp, by simp⟩
    refine hs.of_own (State.flight_setFlight _ c · _) ?_ (fun d h => State.setStand_row_other h) rfl
    exact (hs.row_of lift).arrived called (by rw [State.setFlight_stand, State.stand_setStand_same])
      fun m h => State.setStand_stand_other h
  | recalled busy lift => exact hs.freeBusy busy lift (.inl rfl) rfl rfl rfl
  | @failed c l f cause n busy lift =>
    have freed := hs.freeBusy (g := { f with truck := .failed, lane := none, recallCount := n }) busy lift (.inr rfl) rfl
      rfl rfl
    exact freed.of_fields ⟨by simp [State.failTruck], by simp [State.failTruck], by simp [State.failTruck]⟩
  | unserved busy idle =>
    obtain ⟨f, lift⟩ := hs.lifting busy
    rw [lift] at idle
    cases idle
  | @freed c l released =>
    refine hs.of_row (c := c) ?_ (fun d h => ⟨rfl, State.setStand_row_other h⟩) hs.counter
    refine (hs.row c).freed (l := l) ?_ ?_ fun m h => State.setStand_stand_other h
    · exact ⟨by rw [released]; nofun, by rw [released]; nofun⟩
    · rw [State.stand_setStand_same]; exact ⟨nofun, nofun⟩
  | @restarted c f lift failed =>
    have row := hs.row_of lift
    have fits := row.trucks f rfl
    have departed := row.departed f rfl
    unfold truckFits at fits
    rw [failed] at fits departed
    refine hs.of_own (State.flight_setFlight s c · _) ?_ (fun _ _ => rfl) rfl
    exact rowAgrees_waiting (row.quiet_of_truck (by rw [failed]; nofun) (by rw [failed]; nofun)) (.inl rfl) fits.2 fits.1
      fun aloft => by cases departed.2 aloft

theorem StandsAgree.taken {c : Slot} {g : Group} (idle : s.flight c = none) : StandsAgree (s.groupTaken c g) := by
  have stand : ∀ d, (s.groupTaken c g).stand d = s.stand d := fun d => by
    funext l
    rw [State.groupTaken, State.reevaluate_stand, State.setCrane_stand, State.setFlight_stand, State.claim_stand,
      State.markRecords, State.setQueue_stand]
  have row := hs.row c
  rw [idle] at row
  refine hs.of_own (s.groupTaken_flight c g) ?_ (fun d _ => stand d) ?_
  · rw [stand]
    have grounded : ¬ ((s.newFlight g).job.isLoad = true ∧ (s.newFlight g).phase = .aloft) := fun h => by cases h.2
    cases hatch : g.firstMove.job.isHatch with
    | true =>
      have truck : (s.newFlight g).truck = .notNeeded := by simp [State.newFlight, hatch]
      refine rowAgrees_quiet row.quiet_none ?_ ⟨fun h => ?_, fun h => absurd h grounded⟩
      · unfold truckFits
        rw [truck]
        exact ⟨hatch, rfl⟩
      · rw [truck] at h
        cases h
    | false =>
      exact rowAgrees_waiting row.quiet_none (.inl (by simp [State.newFlight, hatch])) rfl hatch grounded
  · rw [State.groupTaken, State.reevaluate_callCounter, State.setCrane_callCounter, State.setFlight_callCounter,
      State.claim_callCounter]
    rfl

/-- A group that ended, its truck sent away from the stands of a state `u` on the way. -/
theorem StandsAgree.ended {u : State} {c : Slot} {f : Flight} (lift : s.flight c = some f)
    (before : ∀ d l, u.stand d l = s.stand d l) (after : ∀ d l, t.stand d l = (u.releaseTruck c f).stand d l)
    (flight : ∀ d, t.flight d = if d = c then none else s.flight d) (counter : t.callCounter = s.callCounter) :
    StandsAgree t := by
  have before : ∀ d, u.stand d = s.stand d := fun d => funext (before d)
  have after : ∀ d, t.stand d = (u.releaseTruck c f).stand d := fun d => funext (after d)
  have row : RowAgrees (some f) (u.stand c) := before c ▸ hs.row_of lift
  refine hs.of_own flight (rowAgrees_none fun l => ?_) (fun d h => ?_) counter
  · rw [after]; exact row.released l
  · rw [after, State.releaseTruck_row_other h, before]

/-- A LOAD or a hatch group aloft has no truck at a stand. -/
theorem StandsAgree.landed_quiet {c : Slot} {f : Flight} (lift : s.flight c = some f) (aloft : f.phase = .aloft)
    (discharge : f.job.isDischarge = false) (l : Lane) : (s.stand c l).Quiet := by
  have row := hs.row_of lift
  refine Classical.byContradiction fun busy => ?_
  obtain ⟨needed, grounded⟩ := row.served (row.busy busy).2
  cases job : f.job with
  | load level => exact grounded ⟨by rw [job]; rfl, aloft⟩
  | discharge level => rw [job] at discharge; cases discharge
  | hatchOff | hatchOn => rw [job] at needed; cases needed

theorem StandsAgree.groupEvent (h : GroupEvent s t) : StandsAgree t := by
  have counter : t.callCounter = s.callCounter := by rw [show t = _ from h.only]
  cases h with
  | taken fitted idle => exact hs.taken idle
  | @landed c f lift aloft =>
    have flight := s.landGroup_flight c f
    cases discharge : f.job.isDischarge with
    | true =>
      refine hs.ended (u := (s.landed f.job f.footprint (s.flightRecords c f)).1) lift (fun d l => ?_) (fun d l => ?_)
        flight counter
      · rw [State.landed_stand]
      · simp only [State.landGroup, discharge, if_true, State.endFlight, State.reevaluate_stand, State.setCrane_stand,
          State.setFlight_stand, State.removeRecords, State.setQueue_stand, State.appendLog_stand,
          State.releaseFootprint_stand]
    | false =>
      have stand : ∀ d, (s.landGroup c f).1.stand d = s.stand d := fun d => by
        funext l
        simp only [State.landGroup, discharge, State.endFlight, State.reevaluate_stand, State.setCrane_stand,
          State.setFlight_stand, State.removeRecords, State.setQueue_stand, State.appendLog_stand,
          State.releaseFootprint_stand, State.landed_stand, Bool.false_eq_true, if_false]
      exact hs.of_own flight (stand c ▸ rowAgrees_none (hs.landed_quiet lift aloft discharge)) (fun d _ => stand d) counter
  | @givenUp c f lift =>
    refine hs.ended (u := (s.markRecords c f.tags .queued).releaseFootprint f.footprint) lift (fun d l => ?_)
      (fun d l => ?_) (s.giveUpGroup_flight c f) counter
    · rw [State.releaseFootprint_stand, State.markRecords, State.setQueue_stand]
    · simp only [State.giveUpGroup, State.endFlight, State.reevaluate_stand, State.setCrane_stand, State.setFlight_stand]
  | @forced c f lift =>
    refine hs.ended (u := s) lift (fun d l => rfl) (fun d l => ?_) (s.forceGroup_flight c f) counter
    simp only [State.forceGroup, State.endFlight, State.reevaluate_stand, State.setCrane_stand, State.setFlight_stand,
      State.removeRecords, State.setQueue_stand, State.appendLog_stand, State.releaseFootprint_stand]

omit hs in
theorem standsAgree_poweredOn (h : Level) (lines : Vector Level 7) : StandsAgree (State.poweredOn h lines) := by
  have flight : ∀ c, (State.poweredOn h lines).flight c = none := fun c => by simp [State.flight, State.poweredOn]
  have stand : ∀ c l, (State.poweredOn h lines).stand c l = .free := fun c l => by simp [State.stand, State.poweredOn]
  refine standsAgree_iff.2 ⟨fun c => ?_, Nat.le_refl 1, by show 1 ≤ 65535; omega⟩
  rw [flight]
  exact rowAgrees_none fun l => by rw [stand]; exact ⟨nofun, nofun⟩

theorem StandsAgree.setupEvent (h : SetupEvent s t) : StandsAgree t := by
  cases h with
  | poweredOn h lines => exact (standsAgree_poweredOn h lines).of_fields ⟨rfl, rfl, rfl⟩
  | setup => rw [State.enterSetup, State.reevaluate_only]; exact hs.of_fields ⟨rfl, rfl, rfl⟩
  | operating => rw [State.enterOperating, State.reevaluate_only]; exact hs.of_fields ⟨rfl, rfl, rfl⟩
  | configured => rw [State.applyConfig_only]; exact hs.of_fields ⟨rfl, rfl, rfl⟩

theorem StandsAgree.happens (h : Happens s t) : StandsAgree t := by
  cases h with
  | port h => rw [h.only]; exact hs.of_fields ⟨rfl, rfl, rfl⟩
  | span h => rw [h.only]; exact hs.of_fields ⟨rfl, rfl, rfl⟩
  | setup h => exact hs.setupEvent h
  | group h => exact hs.groupEvent h
  | truck h => exact hs.truckEvent h
  | gang h => rw [h.only]; exact hs.of_fields ⟨rfl, rfl, rfl⟩
  | berth h => rw [h.only]; exact hs.of_fields ⟨rfl, rfl, rfl⟩
  | store h => rw [h.only]; exact hs.of_fields ⟨rfl, rfl, rfl⟩

end StandEvents

/-- Settles O10: the stands of a slot agree with its truck row by row, and each event keeps the rows. -/
theorem stepKeepsStandsAgree : Obligations.StepKeepsStandsAgree := fun _ _ hs run =>
  step_keeps (fun _ _ hs => hs.of_fields ⟨rfl, rfl, rfl⟩) (fun _ _ hs h => hs.happens h) hs run

end Sys2Proof.Machine

/-! PROOFS. The walk that finds the groups of a queue, footprints and work positions (R102 to R104, R13 to R15), and the
plan read-out (R112, R113). -/

namespace Sys2Proof.Machine

/-! ### The walk (R102, R103) -/

theorem Group.alone_moves (m : MoveRecord) : (Group.alone m).moves = [m] := by
  unfold Group.alone
  split <;> rfl

theorem Group.alone_single {m : MoveRecord} (h : m.mark = .single) : Group.alone m = .single m := by
  simp [Group.alone, h]

theorem Group.alone_incomplete {m : MoveRecord} (h : m.mark ≠ .single) : Group.alone m = .incomplete m := by
  simp [Group.alone, h]

theorem distance_eq_two {a b : Nat} : distance a b = 2 ↔ a = b + 2 ∨ b = a + 2 := by
  unfold distance
  omega

/-- Two entries match as a twin (R103). -/
theorem twinMatches_iff {a b : MoveRecord} : twinMatches a b = true ↔ a.mark = .twinFirst ∧ b.mark = .twinSecond ∧
    a.job = b.job ∧ a.size = 20 ∧ b.size = 20 ∧ (a.bay = b.bay + 2 ∨ b.bay = a.bay + 2) := by
  simp [twinMatches, distance_eq_two, and_assoc]

theorem groupsOf_twin {a b : MoveRecord} (h : twinMatches a b = true) (q : List MoveRecord) :
    groupsOf (a :: b :: q) = .twin a b :: groupsOf q := by
  rw [groupsOf, if_pos h]

/-- An entry that makes no twin with the one behind it stands alone. -/
theorem groupsOf_alone {a : MoveRecord} {q : List MoveRecord} (h : ∀ b, q.head? = some b → twinMatches a b = false) :
    groupsOf (a :: q) = Group.alone a :: groupsOf q := by
  cases q with
  | nil => rfl
  | cons b rest => rw [groupsOf, if_neg (by simp [h b rfl])]

theorem groupsOf_moves (q : List MoveRecord) : (groupsOf q).flatMap Group.moves = q := by
  induction q using groupsOf.induct with
  | case1 => rfl
  | case2 m => simp [groupsOf, Group.alone_moves]
  | case3 a b rest matched ih => rw [groupsOf_twin matched, List.flatMap_cons, ih]; rfl
  | case4 a b rest unmatched ih =>
    rw [groupsOf, if_neg unmatched, List.flatMap_cons, ih, Group.alone_moves]; rfl

/-- The moves of a group are of one kind (R103). -/
theorem groupsOf_job {q : List MoveRecord} {g : Group} (h : g ∈ groupsOf q) : ∀ m ∈ g.moves, m.job = g.firstMove.job := by
  have alone : ∀ a : MoveRecord, ∀ m ∈ (Group.alone a).moves, m.job = (Group.alone a).firstMove.job := by
    intro a m hm
    rw [Group.alone_moves, List.mem_singleton] at hm
    rw [hm]
    unfold Group.alone
    split <;> rfl
  induction q using groupsOf.induct with
  | case1 => cases h
  | case2 a => exact List.mem_singleton.1 h ▸ alone a
  | case3 a b rest matched ih =>
    rw [groupsOf_twin matched, List.mem_cons] at h
    rcases h with rfl | h
    · obtain ⟨-, -, job, -⟩ := twinMatches_iff.1 matched
      simp [Group.moves, Group.firstMove, job]
    · exact ih h
  | case4 a b rest unmatched ih =>
    rw [groupsOf, if_neg unmatched, List.mem_cons] at h
    rcases h with rfl | h
    · exact alone a
    · exact ih h

/-! ### Footprints and work positions (R13 to R15) -/

theorem bayFootprint_odd (k : Nat) : bayFootprint (2 * k + 1) = .one (k + 1) := by
  unfold bayFootprint
  rw [if_pos (by simp)]
  congr 1
  omega

theorem bayFootprint_even (k : Nat) : bayFootprint (2 * k) = .two k := by
  unfold bayFootprint
  rw [if_neg (by simp)]
  congr 1
  omega

theorem State.sectionPosition_eq {s : State} {k : Nat} {r : Section} (h : s.section? k = some r) :
    s.sectionPosition k = r.position := by
  simp [State.sectionPosition, h]

/-- Settles O49: by induction along the walk, then the footprints by the bay's parity. -/
theorem groupsAndFootprints : Obligations.GroupsAndFootprints := by
  refine ⟨⟨groupsOf_moves, rfl, fun a b q h => ?twin, fun a q single => ?single, fun a q second => ?second,
    fun a q first unmatched => ?first⟩, fun k => ?odd, fun k _ => ?even, fun a b k low bays => ?twinBays,
    fun s k r q hr hq => ?work⟩
  case twin => exact groupsOf_twin (twinMatches_iff.2 h) q
  case single =>
    rw [groupsOf_alone fun b _ => by simp [twinMatches, single], Group.alone_single single]
  case second =>
    rw [groupsOf_alone fun b _ => by simp [twinMatches, second], Group.alone_incomplete (by simp [second])]
  case first =>
    rw [groupsOf_alone fun b head => ?_, Group.alone_incomplete (by simp [first])]
    rw [← Bool.not_eq_true, twinMatches_iff]
    exact fun ⟨_, matched⟩ => unmatched b head matched
  case odd => rw [bayFootprint_odd]; rfl
  case even => rw [bayFootprint_even]; rfl
  case twinBays =>
    obtain ⟨j, rfl⟩ : ∃ j, k = j + 1 := ⟨k - 1, by omega⟩
    have middle : (a.bay + b.bay) / 2 = 2 * (j + 1) := by omega
    refine ⟨by rw [Group.footprint, middle], ?_⟩
    rw [show 2 * (j + 1) - 1 = 2 * j + 1 by omega, bayFootprint_odd, bayFootprint_odd, bayFootprint_even]
    rfl
  case work =>
    exact ⟨State.sectionPosition_eq hr, by
      rw [State.workPosition, State.sectionPosition_eq hr, State.sectionPosition_eq hq]; rfl⟩

/-! ### The plan read-out (R112, R113) -/

section ReadOut

variable {s : State}

theorem readQueueEvent_set (c : Slot) {i : Nat} (h : i < 160) (s : State) :
    readQueueEvent { slot := c.val, index := i } s = planAck (.queue c i (s.queue c).length
      ((s.queue c).filter fun m => decide (m.state = .assigned)).length (groupsOf (s.queue c)).length s.poolCount)
      { s with cursor := { slot := c, index := i } } := by
  have same : (fun m : MoveRecord => m.state == .assigned) = fun m => decide (m.state = .assigned) := by
    funext m
    rfl
  simp only [readQueueEvent, slotOf_val, if_neg (Nat.not_le.2 h), same]

theorem readQueueEvent_badValue {n i : Nat} (h : 8 ≤ n ∨ 160 ≤ i) :
    readQueueEvent { slot := n, index := i } s = refuse .readQueue .badValue .none s := by
  unfold readQueueEvent
  split
  · rfl
  · next c found =>
    rcases h with h | h
    · rw [slotOf_eq_none h] at found; cases found
    · rw [if_pos h]

/-- The group of the k-th move of the group behind those of `before`. -/
theorem groupAt_append {g : Group} {k : Nat} (behind : List Group) (h : k < g.moves.length) (before : List Group) :
    groupAt (before ++ g :: behind) ((before.flatMap Group.moves).length + k) = some (before.length + 1, g) := by
  induction before with
  | nil => simp [groupAt, h]
  | cons x rest ih =>
    have later : (((x :: rest).flatMap Group.moves).length + k) - x.moves.length =
        (rest.flatMap Group.moves).length + k := by
      rw [List.flatMap_cons, List.length_append]; omega
    rw [List.cons_append, groupAt, if_neg (by rw [List.flatMap_cons, List.length_append]; omega), later, ih]
    rfl

theorem readNextEvent_move {before behind : List Group} {g : Group} {k : Nat} {m : MoveRecord}
    (groups : groupsOf (s.queue s.cursor.slot) = before ++ g :: behind) (move : g.moves[k]? = some m)
    (at_ : s.cursor.index = (before.flatMap Group.moves).length + k) :
    readNextEvent () s = ({ s with cursor := { s.cursor with index := s.cursor.index + 1 } },
      [.readReply (.move s.cursor.slot s.cursor.index m (before.length + 1) g.standing) none]) := by
  obtain ⟨inside, -⟩ := List.getElem?_eq_some_iff.1 move
  have record : (s.queue s.cursor.slot)[s.cursor.index]? = some m := by
    conv => lhs; rw [← groupsOf_moves (s.queue s.cursor.slot), groups]
    rw [List.flatMap_append, List.flatMap_cons, at_, List.getElem?_append_right (by omega), Nat.add_sub_cancel_left,
      List.getElem?_append_left inside, move]
  have group : groupAt (groupsOf (s.queue s.cursor.slot)) s.cursor.index = some (before.length + 1, g) := by
    rw [groups, at_, groupAt_append behind inside]
  simp only [readNextEvent, record, group]

theorem readNextEvent_end (h : (s.queue s.cursor.slot).length ≤ s.cursor.index) :
    readNextEvent () s = (s, [.readReply (.queueEnd s.cursor.slot (s.queue s.cursor.slot).length) none]) := by
  simp only [readNextEvent, List.getElem?_eq_none_iff.2 h]

/-- Settles O50: the cursor's place in the queue decides what READ_NEXT answers. -/
theorem queuesAreRead : Obligations.QueuesAreRead := by
  refine ⟨fun s c i h => ?set, fun s n i h => State.planRequest_refused (readQueueEvent_badValue h),
    fun s before behind g k m groups move at_ => ?next, fun s h => ?atEnd⟩
  case set =>
    have ack := State.planRequest_acked (s := s) (t := .readQueue) (readQueueEvent_set c h (s.heard .plan)) rfl
    rwa [State.heard_queue, State.heard_poolCount] at ack
  case next =>
    have event := readNextEvent_move (s := s.heard .plan) (by rwa [State.heard_queue, State.heard_cursor]) move
      (by rwa [State.heard_cursor])
    have taken := s.request_heard .readNext () readNextEvent (p := .plan) (.inl (by simp))
    rw [State.answer_one _ _ _ _ _ event rfl, State.heard_cursor] at taken
    exact taken
  case atEnd =>
    have reply := State.planRequest_read (s := s) (t := .readNext) (event := readNextEvent) (x := ())
      (readNextEvent_end (by rwa [State.heard_queue, State.heard_cursor]))
    rwa [State.heard_queue, State.heard_cursor] at reply

end ReadOut

end Sys2Proof.Machine

/-! PROOFS. What every step keeps of the Move Store and the Completion Log (chapters 6, 7 and 9). -/

namespace Sys2Proof.Machine

/-! ### Sums over the slots -/

theorem all8_distinct : all8.Nodup := by decide

/-- A sum over a list without repetition whose term at one of its members changes. -/
theorem sum_change {g h : Slot → Nat} {l : List Slot} {c : Slot} (distinct : l.Nodup) (member : c ∈ l)
    (other : ∀ d, d ≠ c → g d = h d) : (l.map g).sum + h c = (l.map h).sum + g c := by
  induction l with
  | nil => cases member
  | cons d l ih =>
    obtain ⟨fresh, distinct⟩ := List.nodup_cons.1 distinct
    simp only [List.map_cons, List.sum_cons]
    by_cases same : d = c
    · subst same
      have rest : l.map g = l.map h := List.map_congr_left fun e there => other e fun eq => fresh (eq ▸ there)
      rw [rest]
      omega
    · have rest := ih distinct ((List.mem_cons.1 member).resolve_left (Ne.symm same))
      have own := other d same
      omega

/-- A sum whose term at one slot changes. -/
theorem sum_all8_change {g h : Slot → Nat} (c : Slot) (other : ∀ d, d ≠ c → g d = h d) :
    (all8.map g).sum + h c = (all8.map h).sum + g c := by
  exact sum_change all8_distinct (mem_all8 c) other

/-! ### The log and the moves in flight (R159, R163) -/

/-- The moves of a slot's group in flight. -/
def movesOf (lift : Option Flight) : Nat := (lift.map fun f => f.tags.length).getD 0

theorem State.movesInFlight_eq (s : State) : s.movesInFlight = (all8.map fun c => movesOf (s.flight c)).sum := by
  unfold State.movesInFlight
  congr 2
  funext c
  unfold movesOf
  cases s.flight c <;> rfl

theorem Flight.tags_length (f : Flight) : f.tags.length ≤ 2 := by
  rw [Flight.tags]
  cases f.second <;> simp

theorem State.movesInFlight_le (s : State) : s.movesInFlight ≤ 16 := by
  have each : ∀ c, movesOf (s.flight c) ≤ 2 := fun c => by
    cases h : s.flight c with
    | none => exact Nat.zero_le 2
    | some f => exact f.tags_length
  have sums : ∀ l : List Slot, (l.map fun c => movesOf (s.flight c)).sum ≤ 2 * l.length := fun l => by
    induction l with
    | nil => exact Nat.le_refl 0
    | cons c l ih =>
      have own := each c
      simp only [List.map_cons, List.sum_cons, List.length_cons]
      omega
  rw [State.movesInFlight_eq]
  exact sums all8

theorem movesOf_group {f g : Option Flight} (h : f.map Flight.group = g.map Flight.group) : movesOf f = movesOf g := by
  cases f with
  | none => cases g with
    | none => rfl
    | some g => cases h
  | some f => cases g with
    | none => cases h
    | some g => exact congrArg List.length (Flight.tags_of_group (Option.some.inj h))

section Log

variable {s t : State}

theorem LogBounded.of_fields (hs : LogBounded s) (h : t.log = s.log ∧ t.backlog = s.backlog)
    (groups : ∀ c, (t.flight c).map Flight.group = (s.flight c).map Flight.group) : LogBounded t := by
  obtain ⟨log, backlog⟩ := h
  have moves : t.movesInFlight = s.movesInFlight := by
    rw [State.movesInFlight_eq, State.movesInFlight_eq]
    congr 2
    funext c
    exact movesOf_group (groups c)
  exact ⟨by rw [log, moves]; exact hs.bound, by rw [log, backlog]; exact hs.backlog⟩

/-- A group that ends with at most as many records in the log as it had moves. -/
theorem LogBounded.ended (hs : LogBounded s) {c : Slot} {f : Flight} {rs : List CompletionRecord}
    (lift : s.flight c = some f) (flight : ∀ d, t.flight d = if d = c then none else s.flight d)
    (log : t.log = s.log ++ rs) (count : rs.length ≤ f.tags.length)
    (backlog : t.backlog = if s.log.length < 192 ∧ 192 ≤ t.log.length then true else s.backlog) : LogBounded t := by
  have change := sum_all8_change (g := fun d => movesOf (t.flight d)) (h := fun d => movesOf (s.flight d)) c
    fun d h => by rw [flight, if_neg h]
  have own : movesOf (s.flight c) = f.tags.length := by rw [lift]; rfl
  have gone : movesOf (t.flight c) = 0 := by rw [flight, if_pos rfl]; rfl
  rw [← State.movesInFlight_eq, ← State.movesInFlight_eq, own, gone] at change
  have length : t.log.length = s.log.length + rs.length := by rw [log, List.length_append]
  refine ⟨by have := hs.bound; omega, ?_⟩
  rw [backlog, hs.backlog]
  split
  · next h => simp [h.2]
  · next h =>
    rw [decide_eq_decide]
    omega

/-- A TAKE finds fewer than 192 records in the log (R120). -/
theorem State.log_of_takeRefusal {c : Slot} (h : s.takeRefusal c = none) : s.log.length < 192 := by
  simp only [State.takeRefusal, ite_some_eq_none] at h
  obtain ⟨-, -, -, -, room, -⟩ := h
  omega

theorem LogBounded.taken (hs : LogBounded s) (room : s.log.length < 192) (log : t.log = s.log)
    (backlog : t.backlog = s.backlog) : LogBounded t := by
  have moves := t.movesInFlight_le
  exact ⟨by rw [log]; omega, by rw [log, backlog]; exact hs.backlog⟩

theorem LogBounded.freed (hs : LogBounded s) (n : Nat) : LogBounded (s.freeLog n) := by
  have moves : (s.freeLog n).movesInFlight = s.movesInFlight := rfl
  have bound := hs.bound
  refine ⟨?_, ?_⟩
  · rw [moves]
    show (s.log.drop n).length + _ ≤ _
    rw [List.length_drop]
    omega
  · show (if (s.log.drop n).length < 192 then false else s.backlog) = decide (192 ≤ (s.log.drop n).length)
    rw [hs.backlog]
    split
    · next h => simp; rw [List.length_drop] at h; omega
    · next h =>
      rw [decide_eq_decide]
      rw [List.length_drop] at h ⊢
      omega

theorem State.appendLog_log (s : State) (c : Slot) (n : Nat) (rs : List CompletionRecord) :
    (s.appendLog c n rs).log = s.log ++ rs := by
  unfold State.appendLog
  dsimp only
  split
  · rw [State.raise_log]
  · rfl

theorem State.appendLog_backlog (s : State) (c : Slot) (n : Nat) (rs : List CompletionRecord) :
    (s.appendLog c n rs).backlog =
      if s.log.length < 192 ∧ 192 ≤ (s.appendLog c n rs).log.length then true else s.backlog := by
  rw [State.appendLog_log]
  unfold State.appendLog
  dsimp only
  split
  · rw [State.raise_backlog]
  · rfl

theorem State.completions_length (s : State) (c : Slot) (f : Flight) (r : MoveResult) :
    (s.completions c f r).length ≤ f.tags.length := by
  rw [State.completions, List.length_map]
  exact List.length_filterMap_le _ _

/-- A landing up to the release of the footprint: the counters, and the truck of a DISCHARGE (R130). -/
def State.landedReleased (s : State) (c : Slot) (f : Flight) : State :=
  if f.job.isDischarge then (s.landed f.job f.footprint (s.flightRecords c f)).1.releaseTruck c f
  else (s.landed f.job f.footprint (s.flightRecords c f)).1

theorem State.landedReleased_only (s : State) (c : Slot) (f : Flight) : s.landedReleased c f =
    { s with sections := (s.landedReleased c f).sections, stands := (s.landedReleased c f).stands,
             alerts := (s.landedReleased c f).alerts, attn := (s.landedReleased c f).attn,
             lanePort := (s.landedReleased c f).lanePort } := by
  unfold State.landedReleased
  split
  · rw [State.releaseTruck_only, State.landed_only]
  · rw [State.landed_only]

theorem State.landGroup_fst (s : State) (c : Slot) (f : Flight) : (s.landGroup c f).1 =
    (((((s.landedReleased c f).releaseFootprint f.footprint).appendLog c f.first
      (s.completions c f .done)).removeRecords c f.tags).endFlight c) := rfl

/-- The log of a group that ends as in a state `u` on the way. -/
theorem LogBounded.appended {u : State} (hs : LogBounded s) {c : Slot} {f : Flight} {r : MoveResult}
    (lift : s.flight c = some f) (log : u.log = s.log) (backlog : u.backlog = s.backlog)
    (flight : ∀ d, t.flight d = if d = c then none else s.flight d)
    (end_ : t = ((u.appendLog c f.first (s.completions c f r)).removeRecords c f.tags).endFlight c) : LogBounded t := by
  have logAfter : t.log = (u.appendLog c f.first (s.completions c f r)).log := by
    rw [end_, State.endFlight, State.reevaluate_log]; rfl
  have backlogAfter : t.backlog = (u.appendLog c f.first (s.completions c f r)).backlog := by
    rw [end_, State.endFlight, State.reevaluate_backlog]; rfl
  refine hs.ended lift flight (by rw [logAfter, State.appendLog_log, log]) (s.completions_length c f r) ?_
  rw [backlogAfter, logAfter, State.appendLog_backlog, log, backlog]

theorem LogBounded.groupEvent (hs : LogBounded s) (h : GroupEvent s t) : LogBounded t := by
  cases h with
  | @taken c g fitted idle passes =>
    refine hs.taken (State.log_of_takeRefusal passes) ?_ ?_
    · simp [State.groupTaken, State.markRecords]
    · simp [State.groupTaken, State.markRecords]
  | @landed c f lift =>
    refine hs.appended (u := (s.landedReleased c f).releaseFootprint f.footprint) lift ?_ ?_ (s.landGroup_flight c f)
      (s.landGroup_fst c f)
    · rw [State.releaseFootprint_log, State.landedReleased_only]
    · rw [State.releaseFootprint_backlog, State.landedReleased_only]
  | @givenUp c f lift =>
    refine hs.ended (rs := []) lift (s.giveUpGroup_flight c f) ?_ (Nat.zero_le _) ?_
    · simp [State.giveUpGroup, State.endFlight, State.markRecords]
    · rw [if_neg (by simp [State.giveUpGroup, State.endFlight, State.markRecords])]
      simp [State.giveUpGroup, State.endFlight, State.markRecords]
  | @forced c f lift =>
    refine hs.appended (u := (s.releaseTruck c f).releaseFootprint f.footprint) (r := .forced) lift (by simp) (by simp)
      (s.forceGroup_flight c f) rfl

theorem logBounded_poweredOn (h : Level) (lines : Vector Level 7) : LogBounded (State.poweredOn h lines) := by
  have moves := (State.poweredOn h lines).movesInFlight_le
  exact ⟨by show 0 + _ ≤ 207; omega, rfl⟩

theorem LogBounded.happens (hs : LogBounded s) (h : Happens s t) : LogBounded t := by
  cases h with
  | port h => rw [h.only]; exact hs.of_fields ⟨rfl, rfl⟩ fun _ => rfl
  | span h => rw [h.only]; exact hs.of_fields ⟨rfl, rfl⟩ fun _ => rfl
  | setup h =>
    cases h with
    | poweredOn h lines => exact (logBounded_poweredOn h lines).of_fields ⟨rfl, rfl⟩ fun _ => rfl
    | setup => rw [State.enterSetup, State.reevaluate_only]; exact hs.of_fields ⟨rfl, rfl⟩ fun _ => rfl
    | operating => rw [State.enterOperating, State.reevaluate_only]; exact hs.of_fields ⟨rfl, rfl⟩ fun _ => rfl
    | configured => rw [State.applyConfig_only]; exact hs.of_fields ⟨rfl, rfl⟩ fun _ => rfl
  | group h => exact hs.groupEvent h
  | truck h => 
    have groups := h.groups
    have only := h.only
    exact hs.of_fields ⟨by rw [only], by rw [only]⟩ groups
  | gang h => rw [h.only]; exact hs.of_fields ⟨rfl, rfl⟩ fun _ => rfl
  | berth h => rw [h.only]; exact hs.of_fields ⟨rfl, rfl⟩ fun _ => rfl
  | store h =>
    cases h with
    | freed n => exact hs.freed n
    | appended | inserted | deleted | replaced | pointed => exact hs.of_fields ⟨rfl, rfl⟩ fun _ => rfl

end Log

/-! ### A queue and its group in flight (R104, R111, R116) -/

/-- A queue agrees with its crane's group in flight. -/
structure QueueAgrees (lift : Option Flight) (q : List MoveRecord) : Prop where
  idle : lift = none → ∀ m ∈ q, m.state = .queued
  lifting : ∀ f, lift = some f → standsInQueue q f

section Queues

variable {q : List MoveRecord} {f : Flight} {lift : Option Flight}

theorem queueAgrees_idle (h : ∀ m ∈ q, m.state = .queued) : QueueAgrees none q := ⟨fun _ => h, nofun⟩

theorem queueAgrees_lifting (h : standsInQueue q f) : QueueAgrees (some f) q := ⟨nofun, fun _ e => Option.some.inj e ▸ h⟩

theorem standsInQueue_group {g : Flight} (same : g.group = f.group) (h : standsInQueue q f) : standsInQueue q g := by
  obtain ⟨before, records, behind, split, tags, assigned, queued⟩ := h
  have job : g.job = f.job := by simpa [Flight.group] using congrArg (fun x => x.2.2.1) same
  exact ⟨before, records, behind, split, by rw [tags, Flight.tags_of_group same], by rwa [job], queued⟩

theorem QueueAgrees.of_group {new : Option Flight} (h : QueueAgrees lift q)
    (same : new.map Flight.group = lift.map Flight.group) : QueueAgrees new q := by
  cases new with
  | none => cases lift with
    | none => exact h
    | some g => cases same
  | some f => cases lift with
    | none => cases same
    | some g => exact queueAgrees_lifting (standsInQueue_group (Option.some.inj same) (h.lifting g rfl))

/-- The parts of a queue around its group in flight hold none of the group's tags, as no two records share one. -/
theorem tags_apart {before records behind : List MoveRecord} {tags : List Nat}
    (nodup : ((before ++ records ++ behind).map fun m => m.tag).Nodup) (own : (records.map fun m => m.tag) = tags) :
    (∀ m ∈ before, m.tag ∉ tags) ∧ (∀ m ∈ records, m.tag ∈ tags) ∧ ∀ m ∈ behind, m.tag ∉ tags := by
  subst own
  simp only [List.map_append, List.nodup_append, List.mem_append, List.mem_map] at nodup
  obtain ⟨⟨-, -, apartBefore⟩, -, apartBehind⟩ := nodup
  refine ⟨fun m hm held => ?_, fun m hm => List.mem_map_of_mem hm, fun m hm held => ?_⟩
  · exact apartBefore _ ⟨m, hm, rfl⟩ _ (List.mem_map.1 held) rfl
  · exact apartBehind _ (.inr (List.mem_map.1 held)) _ ⟨m, hm, rfl⟩ rfl

/-- Records marked by tag (R115). -/
def markedQueue (q : List MoveRecord) (tags : List Nat) (st : MoveState) : List MoveRecord :=
  q.map fun m => if tags.contains m.tag then { m with state := st } else m

theorem State.markRecords_eq (s : State) (c : Slot) (tags : List Nat) (st : MoveState) :
    s.markRecords c tags st = s.setQueue c (markedQueue (s.queue c) tags st) := rfl

theorem markedQueue_tags (q : List MoveRecord) (tags : List Nat) (st : MoveState) :
    ((markedQueue q tags st).map fun m => m.tag) = q.map fun m => m.tag := by
  rw [markedQueue, List.map_map]
  refine List.map_congr_left fun m _ => ?_
  dsimp only [Function.comp]
  split <;> rfl

/-- Marking by the tags of a group marks its records and no other. -/
theorem markedQueue_split {before records behind : List MoveRecord} {tags : List Nat} (st : MoveState)
    (nodup : ((before ++ records ++ behind).map fun m => m.tag).Nodup) (own : (records.map fun m => m.tag) = tags) :
    markedQueue (before ++ records ++ behind) tags st =
      before ++ (records.map fun m => { m with state := st }) ++ behind := by
  obtain ⟨outBefore, inside, outBehind⟩ := tags_apart nodup own
  have kept : ∀ l : List MoveRecord, (∀ m ∈ l, m.tag ∉ tags) → markedQueue l tags st = l := fun l h => by
    rw [markedQueue, List.map_congr_left (g := id) fun m hm => by simp [h m hm], List.map_id]
  have marked : markedQueue records tags st = records.map fun m => { m with state := st } :=
    List.map_congr_left fun m hm => by simp [inside m hm]
  rw [markedQueue, List.map_append, List.map_append]
  rw [← markedQueue, ← markedQueue, ← markedQueue, kept before outBefore, marked, kept behind outBehind]

/-- The records of a group taken are ASSIGNED, all others stay QUEUED (R123). -/
theorem standsInQueue_taken {before records behind : List MoveRecord}
    (nodup : ((before ++ records ++ behind).map fun m => m.tag).Nodup)
    (queued : ∀ m ∈ before ++ records ++ behind, m.state = .queued) (own : (records.map fun m => m.tag) = f.tags)
    (job : ∀ m ∈ records, m.job = f.job) :
    standsInQueue (markedQueue (before ++ records ++ behind) f.tags .assigned) f := by
  refine ⟨before, records.map fun m => { m with state := .assigned }, behind, markedQueue_split _ nodup own, ?_, ?_, ?_⟩
  · rw [List.map_map]
    exact own
  · intro m hm
    obtain ⟨r, hr, rfl⟩ := List.mem_map.1 hm
    exact ⟨rfl, job r hr⟩
  · intro m hm
    refine queued m ?_
    rcases List.mem_append.1 hm with h | h <;> simp [h]

/-- The records of a group given up are QUEUED again (R134). -/
theorem standsInQueue.givenUp (h : standsInQueue q f) (nodup : (q.map fun m => m.tag).Nodup) :
    ∀ m ∈ markedQueue q f.tags .queued, m.state = .queued := by
  obtain ⟨before, records, behind, rfl, own, -, queued⟩ := h
  rw [markedQueue_split _ nodup own]
  intro m hm
  rcases List.mem_append.1 hm with hm | hm
  · rcases List.mem_append.1 hm with hm | hm
    · exact queued m (by simp [hm])
    · obtain ⟨r, -, rfl⟩ := List.mem_map.1 hm
      rfl
  · exact queued m (by simp [hm])

/-- The records of a group that ended are gone (R115). -/
theorem standsInQueue.removed (h : standsInQueue q f) : ∀ m ∈ q.filter fun m => !f.tags.contains m.tag,
    m.state = .queued := by
  obtain ⟨before, records, behind, rfl, own, -, queued⟩ := h
  intro m hm
  obtain ⟨held, out⟩ := List.mem_filter.1 hm
  have out : m.tag ∉ f.tags := by simpa using out
  rcases List.mem_append.1 held with hm | hm
  · rcases List.mem_append.1 hm with hm | hm
    · exact queued m (by simp [hm])
    · exact absurd (own ▸ List.mem_map_of_mem hm) out
  · exact queued m (by simp [hm])

/-- In place of a record that is not ASSIGNED others that are QUEUED: the group in flight stands as it stood. -/
theorem standsInQueue.edited {a b : List MoveRecord} {x : MoveRecord} (h : standsInQueue (a ++ x :: b) f)
    (free : x.state ≠ .assigned) {l : List MoveRecord} (new : ∀ m ∈ l, m.state = .queued) :
    standsInQueue (a ++ l ++ b) f := by
  obtain ⟨before, records, behind, split, tags, assigned, queued⟩ := h
  have notOwn : x ∉ records := fun hx => free (assigned x hx).1
  rw [List.append_assoc] at split
  rcases List.append_eq_append_iff.1 split with ⟨c, rfl, tail⟩ | ⟨c, rfl, tail⟩
  all_goals clear split
  · cases c with
    | nil =>
      cases records with
      | nil => simp [Flight.tags] at tags
      | cons r rest => exact absurd (by rw [(List.cons.inj tail).1]; simp) notOwn
    | cons y c =>
      obtain ⟨rfl, rfl⟩ := List.cons.inj tail
      refine ⟨a ++ l ++ c, records, behind, by simp, tags, assigned, fun m hm => ?_⟩
      simp only [List.mem_append] at hm
      rcases hm with ((hm | hm) | hm) | hm
      · exact queued m (by simp [hm])
      · exact new m hm
      · exact queued m (by simp [hm])
      · exact queued m (by simp [hm])
  · rcases List.append_eq_append_iff.1 tail with ⟨d, rfl, rfl⟩ | ⟨d, rfl, end_⟩
    · refine ⟨before, records, d ++ l ++ b, by simp, tags, assigned, fun m hm => ?_⟩
      simp only [List.mem_append] at hm
      rcases hm with hm | (hm | hm) | hm
      · exact queued m (by simp [hm])
      · exact queued m (by simp [hm])
      · exact new m hm
      · exact queued m (by simp [hm])
    · cases d with
      | nil =>
        obtain rfl : x :: b = behind := end_
        refine ⟨before, c, l ++ b, by simp, by simpa using tags, by simpa using assigned, fun m hm => ?_⟩
        simp only [List.mem_append] at hm
        rcases hm with hm | hm | hm
        · exact queued m (by simp [hm])
        · exact new m hm
        · exact queued m (by simp [hm])
      | cons y d => exact absurd (by rw [(List.cons.inj end_).1]; simp) notOwn

theorem QueueAgrees.edited {a b : List MoveRecord} {x : MoveRecord} (h : QueueAgrees lift (a ++ x :: b))
    (free : x.state ≠ .assigned) {l : List MoveRecord} (new : ∀ m ∈ l, m.state = .queued) :
    QueueAgrees lift (a ++ l ++ b) := by
  refine ⟨fun idle m hm => ?_, fun f hf => (h.lifting f hf).edited free new⟩
  simp only [List.mem_append] at hm
  rcases hm with (hm | hm) | hm
  · exact h.idle idle m (by simp [hm])
  · exact new m hm
  · exact h.idle idle m (by simp [hm])

/-- A record put at the tail (R106). -/
theorem QueueAgrees.appended {m : MoveRecord} (h : QueueAgrees lift q) (queued : m.state = .queued) :
    QueueAgrees lift (q ++ [m]) := by
  refine ⟨fun idle x hx => ?_, fun f hf => ?_⟩
  · rcases List.mem_append.1 hx with hx | hx
    · exact h.idle idle x hx
    · exact List.mem_singleton.1 hx ▸ queued
  · obtain ⟨before, records, behind, rfl, tags, assigned, others⟩ := h.lifting f hf
    refine ⟨before, records, behind ++ [m], by simp, tags, assigned, fun x hx => ?_⟩
    simp only [List.mem_append, List.mem_singleton] at hx
    rcases hx with hx | hx | hx
    · exact others x (by simp [hx])
    · exact others x (by simp [hx])
    · exact hx ▸ queued

end Queues

/-! ### Where a tag stands -/

/-- The first record of a tag and its index. -/
theorem indexOfTag_eq {q : List MoveRecord} {tag i : Nat} {m : MoveRecord} (index : indexOfTag q tag = some i)
    (record : recordOfTag q tag = some m) : ∃ a b, q = a ++ m :: b ∧ a.length = i ∧ m.tag = tag := by
  obtain ⟨own, a, b, rfl, first⟩ := List.find?_eq_some_iff_append.1 record
  refine ⟨a, b, rfl, ?_, by simpa using own⟩
  have unfound : a.findIdx? (fun m => m.tag == tag) = none :=
    List.findIdx?_eq_none_iff.2 fun x hx => by simpa using first x hx
  simpa [indexOfTag, List.findIdx?_append, unfound, List.findIdx?_cons, own] using index

theorem State.findTag_eq_some {s : State} {tag i : Nat} {c : Slot} {st : MoveState}
    (h : s.findTag tag = some (c, i, st)) :
    ∃ a x b, s.queue c = a ++ x :: b ∧ a.length = i ∧ x.tag = tag ∧ x.state = st := by
  unfold State.findTag at h
  split at h
  · cases h
  · split at h
    · next index record =>
      obtain ⟨rfl, rfl, rfl⟩ : _ = c ∧ _ = i ∧ _ = st := by simpa using h
      obtain ⟨a, b, split, length, own⟩ := indexOfTag_eq index record
      exact ⟨a, _, b, split, length, own, rfl⟩
    · cases h

theorem insertIdx_split {a b : List MoveRecord} (x m : MoveRecord) :
    (a ++ x :: b).insertIdx a.length m = a ++ [m, x] ++ b := by
  induction a with
  | nil => simp
  | cons y a ih => simpa using ih

theorem eraseIdx_split {a b : List MoveRecord} (x : MoveRecord) : (a ++ x :: b).eraseIdx a.length = a ++ [] ++ b := by
  rw [List.eraseIdx_append_of_length_le (Nat.le_refl _)]
  simp

theorem set_split {a b : List MoveRecord} (x m : MoveRecord) : (a ++ x :: b).set a.length m = a ++ [m] ++ b := by
  rw [List.set_append_right _ _ (Nat.le_refl _)]
  simp

/-! ### The store as a whole (R100) -/

/-- A relation that holds pairwise along the slots, symmetric, holds of any two. -/
theorem pairwise_all8 {R : Slot → Slot → Prop} (symm : ∀ c d, R c d → R d c) (h : all8.Pairwise R) {c d : Slot}
    (apart : c ≠ d) : R c d := by
  have own : ∀ e : Slot, all8[e.val]'e.isLt = e := by decide
  have upward : ∀ {a b : Slot}, a < b → R a b := fun {a b} below => by
    have there := List.pairwise_iff_getElem.1 h a.val b.val a.isLt b.isLt below
    rwa [own, own] at there
  rcases Nat.lt_or_gt_of_ne (fun same => apart (Fin.ext same)) with below | above
  · exact upward below
  · exact symm _ _ (upward above)

theorem State.poolTags_nodup_iff {s : State} : s.poolTags.Nodup ↔ (∀ c, ((s.queue c).map fun m => m.tag).Nodup) ∧
    ∀ c d, c ≠ d → ∀ x ∈ s.queue c, ∀ y ∈ s.queue d, x.tag ≠ y.tag := by
  rw [State.poolTags, List.Nodup, List.pairwise_flatMap]
  constructor
  · rintro ⟨each, apart⟩
    refine ⟨fun c => each c (mem_all8 c), fun c d h x hx y hy same => ?_⟩
    exact pairwise_all8 (fun _ _ k x hx y hy same => k y hy x hx same.symm) apart h _ (List.mem_map_of_mem hx) _
      (List.mem_map_of_mem hy) same
  · rintro ⟨each, apart⟩
    refine ⟨fun c _ => each c, all8_distinct.imp fun {c d} h => ?_⟩
    simp only [List.mem_map]
    rintro _ ⟨x, hx, rfl⟩ _ ⟨y, hy, rfl⟩
    exact apart c d h x hx y hy

theorem State.mem_poolTags {s : State} {n : Nat} : n ∈ s.poolTags ↔ ∃ c, ∃ m ∈ s.queue c, m.tag = n := by
  simp [State.poolTags]

/-- Every queue agrees with the group in flight of its crane. -/
theorem storeAgrees_iff {s : State} : StoreAgrees s ↔ ((∀ c, (s.queue c).length ≤ 160) ∧ s.poolCount ≤ 640) ∧
    (s.poolTags.Nodup ∧ ∀ n ∈ s.poolTags, 1 ≤ n ∧ n ≤ 65535) ∧ ∀ c, QueueAgrees (s.flight c) (s.queue c) :=
  ⟨fun ⟨room, tags, idle, lifting⟩ => ⟨room, tags, fun c => ⟨idle c, lifting c⟩⟩,
    fun ⟨room, tags, rows⟩ => ⟨room, tags, fun c => (rows c).idle, fun c => (rows c).lifting⟩⟩

section Store

variable {s t : State}

theorem StoreAgrees.of_fields (hs : StoreAgrees s) (queues : t.queues = s.queues)
    (groups : ∀ c, (t.flight c).map Flight.group = (s.flight c).map Flight.group) : StoreAgrees t := by
  have queue : ∀ c, t.queue c = s.queue c := fun c => by rw [State.queue, queues]; rfl
  have pool : t.poolCount = s.poolCount := by simp only [State.poolCount, queue]
  have tags : t.poolTags = s.poolTags := by simp only [State.poolTags, queue]
  obtain ⟨room, distinct, rows⟩ := storeAgrees_iff.1 hs
  refine storeAgrees_iff.2 ⟨⟨fun c => by rw [queue]; exact room.1 c, by rw [pool]; exact room.2⟩, by rwa [tags], fun c => ?_⟩
  rw [queue]
  exact (rows c).of_group (groups c)

/-- One queue changed. -/
theorem StoreAgrees.of_queue {c : Slot} (hs : StoreAgrees s) (length : (t.queue c).length ≤ 160)
    (pool : t.poolCount ≤ 640) (nodup : ((t.queue c).map fun m => m.tag).Nodup)
    (new : ∀ x ∈ t.queue c, (∃ y ∈ s.queue c, y.tag = x.tag) ∨
      (s.inPool x.tag = false ∧ 1 ≤ x.tag ∧ x.tag ≤ 65535))
    (row : QueueAgrees (t.flight c) (t.queue c))
    (other : ∀ d, d ≠ c → t.queue d = s.queue d ∧ t.flight d = s.flight d) : StoreAgrees t := by
  obtain ⟨room, ⟨distinct, range⟩, rows⟩ := storeAgrees_iff.1 hs
  obtain ⟨each, apart⟩ := State.poolTags_nodup_iff.1 distinct
  have apartNew : ∀ d, d ≠ c → ∀ x ∈ t.queue c, ∀ y ∈ s.queue d, x.tag ≠ y.tag := by
    intro d h x hx y hy same
    rcases new x hx with ⟨z, hz, old⟩ | ⟨out, -⟩
    · exact apart c d h.symm z hz y hy (old.trans same)
    · rw [← Bool.not_eq_true, State.inPool_iff] at out
      exact out ⟨d, y, hy, same.symm⟩
  refine storeAgrees_iff.2 ⟨⟨fun d => ?_, pool⟩, ⟨State.poolTags_nodup_iff.2 ⟨fun d => ?_, fun d e h x hx y hy => ?_⟩, ?_⟩,
    fun d => ?_⟩
  · by_cases h : d = c
    · exact h ▸ length
    · rw [(other d h).1]; exact room.1 d
  · by_cases h : d = c
    · exact h ▸ nodup
    · rw [(other d h).1]; exact each d
  · by_cases hd : d = c
    · subst hd
      rw [(other e h.symm).1] at hy
      exact apartNew e h.symm x hx y hy
    · rw [(other d hd).1] at hx
      by_cases he : e = c
      · subst he
        exact (apartNew d hd y hy x hx).symm
      · rw [(other e he).1] at hy
        exact apart d e h x hx y hy
  · intro n hn
    obtain ⟨d, x, hx, rfl⟩ := State.mem_poolTags.1 hn
    by_cases h : d = c
    · subst h
      rcases new x hx with ⟨y, hy, same⟩ | ⟨-, good⟩
      · exact range _ (State.mem_poolTags.2 ⟨d, y, hy, same⟩)
      · exact good
    · rw [(other d h).1] at hx
      exact range _ (State.mem_poolTags.2 ⟨d, x, hx, rfl⟩)
  · by_cases h : d = c
    · exact h ▸ row
    · rw [(other d h).1, (other d h).2]; exact rows d

theorem State.poolCount_change {c : Slot} (other : ∀ d, d ≠ c → t.queue d = s.queue d) :
    t.poolCount + (s.queue c).length = s.poolCount + (t.queue c).length :=
  sum_all8_change (g := fun d => (t.queue d).length) (h := fun d => (s.queue d).length) c
    fun d h => congrArg List.length (other d h)

/-- One queue whose tags are some of those it held. -/
theorem StoreAgrees.of_sublist {c : Slot} (hs : StoreAgrees s)
    (tags : ((t.queue c).map fun m => m.tag).Sublist ((s.queue c).map fun m => m.tag))
    (row : QueueAgrees (t.flight c) (t.queue c))
    (other : ∀ d, d ≠ c → t.queue d = s.queue d ∧ t.flight d = s.flight d) : StoreAgrees t := by
  obtain ⟨room, ⟨distinct, -⟩, -⟩ := storeAgrees_iff.1 hs
  have shorter : (t.queue c).length ≤ (s.queue c).length := by simpa using tags.length_le
  have pool := State.poolCount_change (s := s) (t := t) fun d h => (other d h).1
  have bound := room.1 c
  refine hs.of_queue (by omega) (by have := room.2; omega) (tags.nodup ((State.poolTags_nodup_iff.1 distinct).1 c))
    (fun x hx => .inl ?_) row other
  simpa using tags.subset (List.mem_map_of_mem hx)

end Store

end Sys2Proof.Machine

/-! PROOFS. The records a request supplies (R99) and the edits of the queues (R105 to R109). -/

namespace Sys2Proof.Machine

/-! ### The eight checks of R99 -/

/-- The reason of the first check that fails. -/
def firstFailure (checks : List (Bool × Reason)) : Option Reason := (checks.find? fun x => !x.1).map Prod.snd

theorem firstFailure_cons (b : Bool) (r : Reason) (rest : List (Bool × Reason)) :
    firstFailure ((b, r) :: rest) = if !b then some r else firstFailure rest := by
  cases b <;> simp [firstFailure]

theorem firstFailure_nil : firstFailure [] = none := rfl

theorem firstFailure_eq_none {checks : List (Bool × Reason)} : firstFailure checks = none ↔ ∀ x ∈ checks, x.1 = true := by
  simp [firstFailure]

/-- The checks of R99 in their order, each with its reason. -/
def moveChecks (v : Vessel) (m : MoveRequest) : List (Bool × Reason) := [
  (decide (1 ≤ m.tag ∧ m.tag ≤ 65535 ∧ 1 ≤ m.kind ∧ m.kind ≤ 4 ∧ (m.size = 20 ∨ m.size = 40 ∨ m.size = 45) ∧
    m.mark ≤ 2 ∧ m.height ≤ 600 ∧ m.lash ≤ 63), .badValue),
  (decide (if m.kind = 1 ∨ m.kind = 2 then m.level = 1 ∨ m.level = 2 else m.level = 0), .badValue),
  (decide (m.row < v.rowCount), .badValue),
  (decide (if m.kind = 1 ∨ m.kind = 2 then m.laneMask ≠ 0#8
    else m.laneMask = 0#8 ∧ m.row = 0 ∧ m.height = 0 ∧ m.mark = 0), .badValue),
  (decide (m.lash = 0 ∨ m.kind = 2 ∧ m.level = 1), .badValue),
  (decide (1 ≤ m.bay ∧ m.bay ≤ 2 * v.count - 1), .bayRange),
  (decide (if (m.kind = 1 ∨ m.kind = 2) ∧ m.size = 20 then m.bay % 2 = 1 else m.bay % 2 = 0), .bayRange),
  (decide (m.mark ≠ 0 → (m.kind = 1 ∨ m.kind = 2) ∧ m.size = 20), .badValue)]

/-- The record of a request with this mark and job, as it enters the pool. -/
def moveRecord (m : MoveRequest) (mark : GroupMark) (job : Job) : MoveRecord where
  tag := m.tag
  job := job
  bay := m.bay
  size := m.size
  mark := mark
  row := m.row
  height := m.height
  laneMask := m.laneMask
  lash := m.lash
  state := .queued

theorem markOf_eq_some {n : Nat} {mark : GroupMark} : markOf n = some mark ↔ mark.code = n := by
  constructor
  · intro h
    unfold markOf at h
    split at h <;> simp_all [GroupMark.code]
    all_goals (subst h; rfl)
  · rintro rfl
    cases mark <;> rfl

theorem markOf_eq_none {n : Nat} : markOf n = none ↔ 2 < n := by
  match n with
  | 0 | 1 | 2 => simp [markOf]
  | n + 3 => simp [markOf]

theorem jobOf_code (job : Job) : jobOf job.kindCode job.levelCode = some job := by
  cases job with
  | load l | discharge l => cases l <;> rfl
  | hatchOff | hatchOn => rfl

theorem jobOf_eq_some {kind level : Nat} {job : Job} (h : jobOf kind level = some job) :
    job.kindCode = kind ∧ job.levelCode = level := by
  unfold jobOf at h
  split at h
  case h_7 => cases h
  all_goals
    obtain rfl := Option.some.inj h
    exact ⟨rfl, rfl⟩

/-- No job has the codes of a request that fails check 1 or 2. -/
theorem jobOf_eq_none {kind level : Nat} (h : jobOf kind level = none) :
    ¬ (1 ≤ kind ∧ kind ≤ 4) ∨ ¬ (if kind = 1 ∨ kind = 2 then level = 1 ∨ level = 2 else level = 0) := by
  refine Classical.byContradiction fun good => ?_
  rw [not_or, Classical.not_not, Classical.not_not] at good
  obtain ⟨⟨low, high⟩, level⟩ := good
  split at level
  · next box =>
    rcases box with rfl | rfl <;> rcases level with rfl | rfl <;> cases h
  · next box =>
    subst level
    have hatch : kind = 3 ∨ kind = 4 := by omega
    rcases hatch with rfl | rfl <;> cases h

section Checks

variable {v : Vessel} {m : MoveRequest} {mark : GroupMark} {job : Job}

/-- A request that names no mark, or no job, fails check 1 or 2. -/
theorem readMove_unnamed (h : markOf m.mark = none ∨ jobOf m.kind m.level = none) :
    readMove v m = .error .badValue ∧ firstFailure (moveChecks v m) = some .badValue := by
  constructor
  · unfold readMove
    split
    · next mark job => rcases h with h | h <;> simp_all
    · rfl
  · rw [moveChecks, firstFailure_cons, firstFailure_cons]
    split
    · rfl
    · next first =>
      rw [if_pos]
      simp only [Bool.not_eq_true', decide_eq_false_iff_not, Classical.not_not] at first ⊢
      rcases h with h | h
      · have := markOf_eq_none.1 h
        omega
      · exact (jobOf_eq_none h).resolve_left fun bad => bad ⟨first.2.2.1, first.2.2.2.1⟩

theorem readMove_named (hm : markOf m.mark = some mark) (hj : jobOf m.kind m.level = some job) :
    readMove v m = (firstFailure (moveChecks v m)).elim (.ok (moveRecord m mark job)) .error := by
  have markCode := markOf_eq_some.1 hm
  obtain ⟨kind, level⟩ := jobOf_eq_some hj
  have markRange : m.mark ≤ 2 := by rw [← markCode]; cases mark <;> simp [GroupMark.code]
  have first : (within 1 65535 m.tag && within 1 4 m.kind && (m.size == 20 || m.size == 40 || m.size == 45) &&
      within 0 600 m.height && within 0 63 m.lash) =
      decide (1 ≤ m.tag ∧ m.tag ≤ 65535 ∧ 1 ≤ m.kind ∧ m.kind ≤ 4 ∧ (m.size = 20 ∨ m.size = 40 ∨ m.size = 45) ∧
        m.mark ≤ 2 ∧ m.height ≤ 600 ∧ m.lash ≤ 63) := by
    rw [Bool.eq_iff_iff]
    simp [within_iff, markRange, and_assoc, or_assoc]
  have second : decide (if m.kind = 1 ∨ m.kind = 2 then m.level = 1 ∨ m.level = 2 else m.level = 0) = true := by
    rw [← kind, ← level]
    cases job with
    | load l | discharge l => cases l <;> rfl
    | hatchOff | hatchOn => rfl
  have single : (mark == .single) = decide (m.mark = 0) := by rw [← markCode]; cases mark <;> rfl
  have hatch : job.isHatch = !decide (m.kind = 1 ∨ m.kind = 2) := by rw [← kind]; cases job <;> rfl
  have fourth : (if job.isHatch then m.laneMask == 0#8 && m.row == 0 && m.height == 0 && mark == .single
      else m.laneMask != 0#8) = decide (if m.kind = 1 ∨ m.kind = 2 then m.laneMask ≠ 0#8
        else m.laneMask = 0#8 ∧ m.row = 0 ∧ m.height = 0 ∧ m.mark = 0) := by
    rw [hatch, single, Bool.eq_iff_iff]
    by_cases h : m.kind = 1 ∨ m.kind = 2 <;> simp [h, and_assoc]
  have fifth : (m.lash == 0 || job == .load .deck) = decide (m.lash = 0 ∨ m.kind = 2 ∧ m.level = 1) := by
    rw [← kind, ← level, Bool.eq_iff_iff]
    cases job with
    | load l | discharge l => cases l <;> simp [Job.kindCode, Job.levelCode]
    | hatchOff | hatchOn => simp [Job.kindCode, Job.levelCode]
  have sixth : within 1 (2 * v.count - 1) m.bay = decide (1 ≤ m.bay ∧ m.bay ≤ 2 * v.count - 1) := rfl
  have seventh : bayParityFits job m.size m.bay =
      decide (if (m.kind = 1 ∨ m.kind = 2) ∧ m.size = 20 then m.bay % 2 = 1 else m.bay % 2 = 0) := by
    rw [bayParityFits, hatch, Bool.eq_iff_iff]
    by_cases h : m.kind = 1 ∨ m.kind = 2 <;> by_cases size : m.size = 20 <;> simp [h, size]
  have eighth : (mark == .single || (m.size == 20 && !job.isHatch)) =
      decide (m.mark ≠ 0 → (m.kind = 1 ∨ m.kind = 2) ∧ m.size = 20) := by
    rw [hatch, single, Bool.eq_iff_iff]
    simp only [Bool.or_eq_true, decide_eq_true_eq, Bool.and_eq_true, beq_iff_eq, Bool.not_not]
    rw [ne_eq, ← Decidable.or_iff_not_imp_left, and_comm]
  simp only [readMove, hm, hj, first, fourth, fifth, sixth, seventh, eighth, moveChecks, firstFailure_cons, second,
    firstFailure_nil, apply_ite (fun o : Option Reason => o.elim (Except.ok (moveRecord m mark job)) Except.error)]
  rfl

/-- A request read: the reason of the first check that fails, or the record. -/
theorem readMove_eq (v : Vessel) (m : MoveRequest) : (∃ e, firstFailure (moveChecks v m) = some e ∧ readMove v m = .error e) ∨
    ∃ mark job, firstFailure (moveChecks v m) = none ∧ readMove v m = .ok (moveRecord m mark job) ∧
      mark.code = m.mark ∧ job.kindCode = m.kind ∧ job.levelCode = m.level := by
  cases hm : markOf m.mark with
  | none =>
    obtain ⟨read, failed⟩ := readMove_unnamed (v := v) (.inl hm)
    exact .inl ⟨_, failed, read⟩
  | some mark =>
    cases hj : jobOf m.kind m.level with
    | none =>
      obtain ⟨read, failed⟩ := readMove_unnamed (v := v) (.inr hj)
      exact .inl ⟨_, failed, read⟩
    | some job =>
      have read := readMove_named (v := v) hm hj
      cases failed : firstFailure (moveChecks v m) with
      | some e => exact .inl ⟨e, rfl, by rw [read, failed]; rfl⟩
      | none =>
        obtain ⟨kind, level⟩ := jobOf_eq_some hj
        exact .inr ⟨mark, job, rfl, by rw [read, failed]; rfl, markOf_eq_some.1 hm, kind, level⟩

end Checks

/-! ### What the pool holds -/

section Edits

variable {s : State} {v : Vessel} {m : MoveRequest} {r : MoveRecord} {c : Slot} {tag : Nat}

/-- A valid request's record (R99). -/
theorem readMove_ok (h : readMove v m = .ok r) : firstFailure (moveChecks v m) = none ∧
    ∃ mark job, r = moveRecord m mark job ∧ mark.code = m.mark ∧ job.kindCode = m.kind ∧ job.levelCode = m.level := by
  rcases readMove_eq v m with ⟨e, -, failed⟩ | ⟨mark, job, good, read, codes⟩
  · rw [failed] at h; cases h
  · rw [read] at h
    exact ⟨good, mark, job, (Except.ok.inj h).symm, codes⟩

theorem readMove_tag (h : readMove v m = .ok r) : r.tag = m.tag := by
  obtain ⟨-, mark, job, rfl, -⟩ := readMove_ok h
  rfl

/-- A record read enters the pool QUEUED, with a tag of 1 to 65535 (R98). -/
theorem readMove_enters (h : readMove v m = .ok r) : r.state = .queued ∧ 1 ≤ r.tag ∧ r.tag ≤ 65535 := by
  obtain ⟨good, mark, job, rfl, -⟩ := readMove_ok h
  have first : decide (1 ≤ m.tag ∧ m.tag ≤ 65535 ∧ _) = true := firstFailure_eq_none.1 good _ (.head _)
  have range := of_decide_eq_true first
  exact ⟨rfl, range.1, range.2.1⟩

theorem State.inPool_eq_false : s.inPool tag = false ↔ ∀ d y, y ∈ s.queue d → y.tag ≠ tag := by
  rw [← Bool.not_eq_true, State.inPool_iff]
  exact ⟨fun absent d y there same => absent ⟨d, y, there, same⟩,
    fun absent ⟨d, y, there, same⟩ => absent d y there same⟩

theorem State.findTag_absent (h : ∀ d y, y ∈ s.queue d → y.tag ≠ tag) : s.findTag tag = none := by
  have out := State.inPool_eq_false.2 h
  rw [State.inPool, Option.isSome_eq_false_iff, Option.isNone_iff_eq_none] at out
  rw [State.findTag, out]

/-- The first record of a tag that only one queue holds. -/
theorem State.findTag_split {before behind : List MoveRecord} {x : MoveRecord} (split : s.queue c = before ++ x :: behind)
    (only : ∀ d y, y ∈ s.queue d → y.tag = x.tag → d = c) (first : ∀ y ∈ before, y.tag ≠ x.tag) :
    s.findTag x.tag = some (c, before.length, x.state) := by
  have holder : s.holderOf x.tag = some c := by
    cases h : s.holderOf x.tag with
    | none =>
      have out := List.find?_eq_none.1 h c (mem_all8 c)
      simp [split] at out
    | some d =>
      have holds := List.find?_some h
      simp only [List.any_eq_true, beq_iff_eq] at holds
      obtain ⟨y, hy, same⟩ := holds
      rw [only d y hy same]
  have index : indexOfTag (s.queue c) x.tag = some before.length := by
    have unfound : before.findIdx? (fun m => m.tag == x.tag) = none :=
      List.findIdx?_eq_none_iff.2 fun y hy => by simpa using first y hy
    simp [indexOfTag, split, List.findIdx?_append, unfound, List.findIdx?_cons]
  have record : recordOfTag (s.queue c) x.tag = some x := by
    rw [recordOfTag, List.find?_eq_some_iff_append]
    exact ⟨by simp, before, behind, split, fun y hy => by simpa using first y hy⟩
  simp only [State.findTag, holder, index, record]

theorem State.roomRefusal_eq_none : s.roomRefusal c = none ↔ (s.queue c).length < 160 ∧ s.poolCount < 640 := by
  simp [State.roomRefusal, ite_some_eq_none]

theorem State.roomRefusal_queueFull (h : 160 ≤ (s.queue c).length) : s.roomRefusal c = some .queueFull := if_pos h

theorem State.roomRefusal_poolFull (room : (s.queue c).length < 160) (h : 640 ≤ s.poolCount) :
    s.roomRefusal c = some .poolFull := by
  rw [State.roomRefusal, if_neg (Nat.not_le.2 room), if_pos h]

@[simp] theorem State.heard_findTag (s : State) (p : PortId) (tag : Nat) : (s.heard p).findTag tag = s.findTag tag := by
  simp [State.findTag, State.holderOf]

@[simp] theorem State.heard_roomRefusal (s : State) (p : PortId) (c : Slot) :
    (s.heard p).roomRefusal c = s.roomRefusal c := by
  simp [State.roomRefusal]

/-! ### APPEND, INSERT, DELETE and REPLACE, case by case (R106 to R109) -/

theorem appendEvent_duplicate (vessel : s.vessel = some v) (read : readMove v m = .ok r) (held : s.inPool m.tag = true) :
    appendEvent { slot := c.val, move := m } s = refuse .append .duplicateTag .none s := by
  simp only [appendEvent, slotOf_val, vessel, read, readMove_tag read, held, if_true]

theorem appendEvent_noRoom {e : Reason} (vessel : s.vessel = some v) (read : readMove v m = .ok r)
    (new : s.inPool m.tag = false) (full : s.roomRefusal c = some e) :
    appendEvent { slot := c.val, move := m } s = refuse .append e .none s := by
  simp only [appendEvent, slotOf_val, vessel, read, readMove_tag read, new, Bool.false_eq_true, if_false, full]

theorem appendEvent_made (vessel : s.vessel = some v) (read : readMove v m = .ok r) (new : s.inPool m.tag = false)
    (room : s.roomRefusal c = none) : appendEvent { slot := c.val, move := m } s =
      editAck m.tag c (some (s.queue c).length) (s.setQueue c (s.queue c ++ [r])) := by
  simp only [appendEvent, slotOf_val, vessel, read, readMove_tag read, new, Bool.false_eq_true, if_false, room]

section Found

variable {i : Nat} {st : MoveState} (found : s.findTag tag = some (c, i, st))

include found

theorem insertEvent_locked (vessel : s.vessel = some v) (read : readMove v m = .ok r) (locked : st = .assigned) :
    insertEvent { tag := tag, move := m } s = refuse .insert .locked .none s := by
  simp only [insertEvent, vessel, read, found, locked, if_true]

theorem insertEvent_duplicate (vessel : s.vessel = some v) (read : readMove v m = .ok r) (free : st ≠ .assigned)
    (held : s.inPool m.tag = true) : insertEvent { tag := tag, move := m } s = refuse .insert .duplicateTag .none s := by
  simp only [insertEvent, vessel, read, found, free, readMove_tag read, held, if_true, if_false]

theorem insertEvent_noRoom {e : Reason} (vessel : s.vessel = some v) (read : readMove v m = .ok r)
    (free : st ≠ .assigned) (new : s.inPool m.tag = false) (full : s.roomRefusal c = some e) :
    insertEvent { tag := tag, move := m } s = refuse .insert e .none s := by
  simp only [insertEvent, vessel, read, found, free, readMove_tag read, new, Bool.false_eq_true, if_false, full]

theorem insertEvent_made (vessel : s.vessel = some v) (read : readMove v m = .ok r) (free : st ≠ .assigned)
    (new : s.inPool m.tag = false) (room : s.roomRefusal c = none) : insertEvent { tag := tag, move := m } s =
      editAck m.tag c (some i) (s.setQueue c ((s.queue c).insertIdx i r)) := by
  simp only [insertEvent, vessel, read, found, free, readMove_tag read, new, Bool.false_eq_true, if_false, room]

theorem deleteEvent_locked (locked : st = .assigned) : deleteEvent tag s = refuse .delete .locked .none s := by
  simp only [deleteEvent, found, locked, if_true]

theorem deleteEvent_made (free : st ≠ .assigned) :
    deleteEvent tag s = editAck tag c none (s.setQueue c ((s.queue c).eraseIdx i)) := by
  simp only [deleteEvent, found, free, if_false]

theorem replaceEvent_locked (vessel : s.vessel = some v) (read : readMove v m = .ok r) (locked : st = .assigned) :
    replaceEvent { tag := tag, move := m } s = refuse .replace .locked .none s := by
  simp only [replaceEvent, vessel, read, found, locked, if_true]

theorem replaceEvent_duplicate (vessel : s.vessel = some v) (read : readMove v m = .ok r) (free : st ≠ .assigned)
    (other : m.tag ≠ tag) (held : s.inPool m.tag = true) :
    replaceEvent { tag := tag, move := m } s = refuse .replace .duplicateTag .none s := by
  simp only [replaceEvent, vessel, read, found, free, readMove_tag read, if_false]
  rw [if_pos ⟨other, held⟩]

theorem replaceEvent_made (vessel : s.vessel = some v) (read : readMove v m = .ok r) (free : st ≠ .assigned)
    (new : m.tag = tag ∨ s.inPool m.tag = false) : replaceEvent { tag := tag, move := m } s =
      editAck m.tag c (some i) (s.setQueue c ((s.queue c).set i r)) := by
  simp only [replaceEvent, vessel, read, found, free, readMove_tag read, if_false]
  rw [if_neg]
  rintro ⟨other, held⟩
  rcases new with same | out
  · exact other same
  · rw [out] at held; cases held

end Found

/-- Where no record has the tag, an edit that names it is refused. -/
theorem edits_unknownTag (absent : ∀ d y, y ∈ s.queue d → y.tag ≠ tag) :
    deleteEvent tag s = refuse .delete .unknownTag .none s ∧
    ∀ {v m r}, s.vessel = some v → readMove v m = .ok r →
      insertEvent { tag := tag, move := m } s = refuse .insert .unknownTag .none s ∧
      replaceEvent { tag := tag, move := m } s = refuse .replace .unknownTag .none s := by
  have out := State.findTag_absent absent
  refine ⟨by simp only [deleteEvent, out], fun vessel read => ⟨?_, ?_⟩⟩
  · simp only [insertEvent, vessel, read, out]
  · simp only [replaceEvent, vessel, read, out]

/-- Without a vessel, and with a record that fails a check of R99. -/
theorem edits_unread :
    (s.vessel = none → insertEvent { tag := tag, move := m } s = refuse .insert .noVessel .none s ∧
      replaceEvent { tag := tag, move := m } s = refuse .replace .noVessel .none s ∧
      appendEvent { slot := c.val, move := m } s = refuse .append .noVessel .none s) ∧
    ∀ {v e}, s.vessel = some v → readMove v m = .error e →
      insertEvent { tag := tag, move := m } s = refuse .insert e .none s ∧
      replaceEvent { tag := tag, move := m } s = refuse .replace e .none s ∧
      appendEvent { slot := c.val, move := m } s = refuse .append e .none s := by
  refine ⟨fun vessel => ⟨?_, ?_, ?_⟩, fun vessel bad => ⟨?_, ?_, ?_⟩⟩
  · simp only [insertEvent, vessel]
  · simp only [replaceEvent, vessel]
  · simp only [appendEvent, slotOf_val, vessel]
  · simp only [insertEvent, vessel, bad]
  · simp only [replaceEvent, vessel, bad]
  · simp only [appendEvent, slotOf_val, vessel, bad]

end Edits

/-! ### The obligations -/

/-- Settles O47: the eight checks one by one, then each event's cases. -/
theorem editsAreRefusedInOrder : Obligations.EditsAreRefusedInOrder := by
  refine ⟨fun v m => ⟨fun e => ?error, ?valid, fun r read => ?record⟩, fun s m tag =>
    ⟨fun n out => ?badSlot, fun vessel => ?noVessel, fun absent => ?unknown, fun c i found => ?lockedDelete,
      fun v vessel => ⟨fun e bad => ?badMove, fun r read => ⟨fun absent => ?unknownTag, fun c i found => ?locked,
        fun held => ?duplicate, fun absent => ?room⟩⟩⟩⟩
  case error =>
    show readMove v m = .error e ↔ firstFailure (moveChecks v m) = some e
    rcases readMove_eq v m with ⟨x, failed, read⟩ | ⟨mark, job, failed, read, -⟩
    · rw [read, failed, Option.some.injEq, Except.error.injEq]
    · rw [read, failed]
      exact ⟨nofun, nofun⟩
  case valid =>
    show (∃ r, readMove v m = .ok r) ↔ ∀ x ∈ moveChecks v m, x.1 = true
    rw [← firstFailure_eq_none]
    rcases readMove_eq v m with ⟨x, failed, read⟩ | ⟨mark, job, failed, read, -⟩
    · rw [read, failed]
      exact ⟨fun ⟨_, h⟩ => (nomatch h), fun h => (nomatch h)⟩
    · rw [read, failed]
      exact ⟨fun _ => rfl, fun _ => ⟨_, rfl⟩⟩
  case record =>
    obtain ⟨-, mark, job, rfl, markCode, kind, level⟩ := readMove_ok read
    exact ⟨rfl, kind, level, markCode⟩
  case badSlot => exact State.planRequest_refused (by simp only [appendEvent, slotOf_eq_none out])
  case noVessel =>
    have refused := fun c => (edits_unread (s := s.heard .plan) (m := m) (tag := tag) (c := c)).1 (by simpa)
    exact ⟨State.planRequest_refused (refused 0).1, State.planRequest_refused (refused 0).2.1,
      fun c => State.planRequest_refused (refused c).2.2⟩
  case unknown =>
    exact State.planRequest_refused (edits_unknownTag (s := s.heard .plan) (by simpa using absent)).1
  case lockedDelete => exact State.planRequest_refused (deleteEvent_locked (c := c) (by simpa using found) rfl)
  case badMove =>
    have refused := fun c => (edits_unread (s := s.heard .plan) (m := m) (tag := tag) (c := c)).2 (v := v) (e := e)
      (by simpa) bad
    exact ⟨State.planRequest_refused (refused 0).1, State.planRequest_refused (refused 0).2.1,
      fun c => State.planRequest_refused (refused c).2.2⟩
  case unknownTag =>
    obtain ⟨insert, replace⟩ := (edits_unknownTag (s := s.heard .plan) (tag := tag) (by simpa using absent)).2
      (by simpa using vessel) read
    exact ⟨State.planRequest_refused insert, State.planRequest_refused replace⟩
  case locked =>
    exact ⟨State.planRequest_refused (insertEvent_locked (c := c) (by simpa using found) (by simpa) read rfl),
      State.planRequest_refused (replaceEvent_locked (c := c) (by simpa using found) (by simpa) read rfl)⟩
  case duplicate =>
    have held : s.inPool m.tag = true := by
      rw [← Bool.not_eq_false, State.inPool_eq_false]
      exact held
    refine ⟨fun c => State.planRequest_refused (appendEvent_duplicate (by simpa using vessel) read (by simpa using held)),
      fun c i found => ⟨?_, fun other => ?_⟩⟩
    · exact State.planRequest_refused (insertEvent_duplicate (c := c) (st := .queued) (by simpa using found)
        (by simpa using vessel) read nofun (by simpa using held))
    · exact State.planRequest_refused (replaceEvent_duplicate (c := c) (st := .queued) (by simpa using found)
        (by simpa using vessel) read nofun other (by simpa using held))
  case room =>
    have new := State.inPool_eq_false.2 absent
    have refused : ∀ c e, s.roomRefusal c = some e →
        exec (.append (.fields { slot := c.val, move := m })) s =
          .next ((s.heard .plan).send .plan (.refuse .append e .none)) ∧
        ∀ i, s.findTag tag = some (c, i, .queued) → exec (.insert (.fields { tag := tag, move := m })) s =
          .next ((s.heard .plan).send .plan (.refuse .insert e .none)) := fun c e full =>
      ⟨State.planRequest_refused (appendEvent_noRoom (by simpa using vessel) read (by simpa using new) (by simpa using full)),
        fun i found => State.planRequest_refused (insertEvent_noRoom (c := c) (st := .queued) (by simpa using found)
          (by simpa using vessel) read nofun (by simpa using new) (by simpa using full))⟩
    exact ⟨fun c full => refused c _ (State.roomRefusal_queueFull full),
      fun c room full => refused c _ (State.roomRefusal_poolFull room full)⟩

/-- Settles O48: each edit that no check refuses stores its queue and is acknowledged. -/
theorem editsAreMade : Obligations.EditsAreMade := by
  intro s v m r c vessel read made
  have acked : ∀ {α : Type} {q : List MoveRecord} {tag : Nat} {index : Option Nat} {ty : RequestType} {x : α}
      {event : α → State → State × List Telegram},
      event x (s.heard .plan) = editAck tag c index ((s.heard .plan).setQueue c q) →
      s.request .plan ty (.fields x) event = made q tag index := by
    intro α q tag index ty x event h
    have ack := State.planRequest_acked (t := ty) (x := x) (event := event) (s := s) (h.trans rfl) rfl
    rw [ack]
    simp only [made, State.queue_setQueue_same]
  have vessel : (s.heard .plan).vessel = some v := by simpa using vessel
  refine ⟨fun new room pool => ?append, fun before behind x split queued only first =>
    ⟨fun new room pool => ?insert, ?delete, fun new => ?replace⟩⟩
  case append =>
    have made := appendEvent_made (c := c) vessel read (by simpa using State.inPool_eq_false.2 new)
      (by simpa using State.roomRefusal_eq_none.2 ⟨room, pool⟩)
    rw [State.heard_queue] at made
    exact acked (ty := .append) made
  all_goals
    have found := State.findTag_split split only first
    have found : (s.heard .plan).findTag x.tag = some (c, before.length, x.state) := by simpa using found
    have free : x.state ≠ .assigned := by rw [queued]; nofun
  case insert =>
    have made := insertEvent_made found vessel read free (by simpa using State.inPool_eq_false.2 new)
      (by simpa using State.roomRefusal_eq_none.2 ⟨room, pool⟩)
    rw [State.heard_queue, split, insertIdx_split, List.append_assoc] at made
    exact acked (ty := .insert) made
  case delete =>
    have made := deleteEvent_made found free
    rw [State.heard_queue, split, eraseIdx_split, List.append_nil] at made
    exact acked (ty := .delete) made
  case replace =>
    have made := replaceEvent_made found vessel read free (new.imp_right fun new => by
      simpa using State.inPool_eq_false.2 new)
    rw [State.heard_queue, split, set_split, List.append_assoc] at made
    exact acked (ty := .replace) made

end Sys2Proof.Machine

/-! PROOFS. The Move Store and the Completion Log after every event. -/

namespace Sys2Proof.Machine

section StoreEvents

variable {s t : State} (hs : StoreAgrees s)

include hs

theorem StoreAgrees.queueTags (c : Slot) : ((s.queue c).map fun m => m.tag).Nodup :=
  (State.poolTags_nodup_iff.1 hs.tags.1).1 c

theorem StoreAgrees.row (c : Slot) : QueueAgrees (s.flight c) (s.queue c) := (storeAgrees_iff.1 hs).2.2 c

/-! ### Edits -/

/-- Records put in place of one that is not ASSIGNED, with tags that are its own or new. -/
theorem StoreAgrees.edited {c : Slot} {a b l : List MoveRecord} {x : MoveRecord} (split : s.queue c = a ++ x :: b)
    (free : x.state ≠ .assigned) (queued : ∀ m ∈ l, m.state = .queued)
    (room : (a ++ l ++ b).length ≤ 160) (pool : s.poolCount + l.length ≤ 641) (nodup : (l.map fun m => m.tag).Nodup)
    (new : ∀ m ∈ l, m.tag = x.tag ∨ (s.inPool m.tag = false ∧ 1 ≤ m.tag ∧ m.tag ≤ 65535)) :
    StoreAgrees (s.setQueue c (a ++ l ++ b)) := by
  have old := hs.queueTags c
  have row := hs.row c
  rw [split] at old row
  have other : ∀ d, d ≠ c → (s.setQueue c (a ++ l ++ b)).queue d = s.queue d := fun d h => by
    rw [State.queue_setQueue, if_neg h]
  have apart : ∀ y ∈ a ++ b, ∀ m ∈ l, y.tag ≠ m.tag := by
    intro y hy m hm same
    have held : y ∈ s.queue c := by
      rw [split]
      rcases List.mem_append.1 hy with h | h <;> simp [h]
    rcases new m hm with own | ⟨out, -⟩
    · simp only [List.map_append, List.map_cons, List.nodup_append, List.nodup_cons] at old
      obtain ⟨-, ⟨xb, -⟩, ax⟩ := old
      rcases List.mem_append.1 hy with h | h
      · exact ax _ (List.mem_map_of_mem h) _ (.head _) (same.trans own)
      · exact xb (List.mem_map.2 ⟨y, h, same.trans own⟩)
    · exact State.inPool_eq_false.1 out c y held same
  have count := State.poolCount_change other
  rw [State.queue_setQueue_same, split] at count
  refine hs.of_queue (c := c) (by rwa [State.queue_setQueue_same]) ?_ ?_ ?_ ?_ fun d h => ⟨other d h, rfl⟩
  · have := hs.room.2
    simp only [List.length_append, List.length_cons] at count
    omega
  · rw [State.queue_setQueue_same]
    simp only [List.map_append, List.map_cons, List.nodup_append, List.nodup_cons, List.mem_append] at old ⊢
    obtain ⟨na, ⟨-, nb⟩, ab⟩ := old
    refine ⟨⟨na, nodup, ?_⟩, nb, ?_⟩
    · intro p hp q hq
      obtain ⟨y, hy, rfl⟩ := List.mem_map.1 hp
      obtain ⟨m, hm, rfl⟩ := List.mem_map.1 hq
      exact apart y (by simp [hy]) m hm
    · rintro p (hp | hp) q hq
      · exact ab p hp q (.tail _ hq)
      · obtain ⟨m, hm, rfl⟩ := List.mem_map.1 hp
        obtain ⟨y, hy, rfl⟩ := List.mem_map.1 hq
        exact (apart y (by simp [hy]) m hm).symm
  · rw [State.queue_setQueue_same]
    intro y hy
    simp only [List.mem_append] at hy
    rcases hy with (h | h) | h
    · exact .inl ⟨y, by rw [split]; simp [h], rfl⟩
    · rcases new y h with own | out
      · exact .inl ⟨x, by rw [split]; simp, own.symm⟩
      · exact .inr out
    · exact .inl ⟨y, by rw [split]; simp [h], rfl⟩
  · rw [State.queue_setQueue_same]
    exact row.edited free queued

theorem StoreAgrees.storeEvent (h : StoreEvent s t) : StoreAgrees t := by
  cases h with
  | @appended c v q m vessel good new room =>
    obtain ⟨queued, range⟩ := readMove_enters good
    obtain ⟨length, pool⟩ := State.roomRefusal_eq_none.1 room
    have other : ∀ d, d ≠ c → (s.setQueue c (s.queue c ++ [m])).queue d = s.queue d := fun d h => by
      rw [State.queue_setQueue, if_neg h]
    have count := State.poolCount_change other
    rw [State.queue_setQueue_same, List.length_append, List.length_singleton] at count
    refine hs.of_queue (c := c) ?_ (by omega) ?_ ?_ ?_ fun d h => ⟨other d h, rfl⟩
    · rw [State.queue_setQueue_same, List.length_append, List.length_singleton]; omega
    · rw [State.queue_setQueue_same, List.map_append, List.nodup_append]
      refine ⟨hs.queueTags c, by simp, fun p hp q hq => ?_⟩
      obtain ⟨y, hy, rfl⟩ := List.mem_map.1 hp
      rw [List.map_singleton, List.mem_singleton] at hq
      rw [hq]
      exact State.inPool_eq_false.1 new c y hy
    · rw [State.queue_setQueue_same]
      intro y hy
      rcases List.mem_append.1 hy with h | h
      · exact .inl ⟨y, h, rfl⟩
      · rw [List.mem_singleton.1 h]; exact .inr ⟨new, range⟩
    · rw [State.queue_setQueue_same]
      exact (hs.row c).appended queued
  | @inserted c i st tag v q m vessel good found free new room =>
    obtain ⟨queued, range⟩ := readMove_enters good
    obtain ⟨length, pool⟩ := State.roomRefusal_eq_none.1 room
    obtain ⟨a, x, b, split, rfl, -, rfl⟩ := State.findTag_eq_some found
    have idle : x.state = .queued := by
      cases h : x.state with
      | queued => rfl
      | assigned => exact absurd h free
    rw [split, insertIdx_split]
    have out := State.inPool_eq_false.1 new c x (by rw [split]; simp)
    rw [split, List.length_append, List.length_cons] at length
    refine hs.edited split free ?_ ?_ ?_ ?_ ?_
    · simp [queued, idle]
    · simp only [List.length_append, List.length_cons, List.length_nil]; omega
    · simp only [List.length_cons, List.length_nil]; omega
    · simpa using fun h => out h.symm
    · simp [new, range]
  | @deleted c i st tag found free =>
    obtain ⟨a, x, b, split, rfl, -, rfl⟩ := State.findTag_eq_some found
    rw [split, eraseIdx_split]
    have length := hs.room.1 c
    rw [split, List.length_append, List.length_cons] at length
    refine hs.edited split free (by simp) ?_ ?_ (by simp) (by simp)
    · simp only [List.length_append, List.length_nil]; omega
    · have := hs.room.2
      simp only [List.length_nil]; omega
  | @replaced c i st tag v q m vessel good found free new =>
    obtain ⟨queued, range⟩ := readMove_enters good
    obtain ⟨a, x, b, split, rfl, own, rfl⟩ := State.findTag_eq_some found
    rw [split, set_split]
    have length := hs.room.1 c
    rw [split, List.length_append, List.length_cons] at length
    refine hs.edited split free (by simpa using queued) ?_ ?_ (by simp) ?_
    · simp only [List.length_append, List.length_cons, List.length_nil]; omega
    · have := hs.room.2
      simp only [List.length_cons, List.length_nil]; omega
    · rintro y hy
      rw [List.mem_singleton.1 hy]
      exact new.imp (fun h => h.trans own.symm) fun out => ⟨out, range⟩
  | pointed => exact hs.of_fields rfl fun _ => rfl
  | freed => exact hs.of_fields rfl fun _ => rfl

/-! ### Groups -/

/-- The records of a group taken (R123). -/
theorem StoreAgrees.taken {c : Slot} {g : Group} (idle : s.flight c = none) (ready : s.readyGroup c = some g) :
    StoreAgrees (s.groupTaken c g) := by
  have queue : ∀ d, (s.groupTaken c g).queue d =
      if d = c then markedQueue (s.queue c) (s.newFlight g).tags .assigned else s.queue d := fun d => by
    rw [State.groupTaken, State.reevaluate_queue, State.setCrane_queue, State.setFlight_queue, State.claim_queue,
      State.markRecords_eq, State.queue_setQueue]
  have candidate : g ∈ groupsOf (s.queue c) := by
    obtain ⟨n, take⟩ := s.candidates_eq_take (c := c)
    have mem := List.mem_of_find?_eq_some ready
    rw [take] at mem
    exact List.mem_of_mem_take mem
  obtain ⟨before, behind, groups⟩ := List.append_of_mem candidate
  have split : s.queue c = before.flatMap Group.moves ++ g.moves ++ behind.flatMap Group.moves := by
    rw [← groupsOf_moves (s.queue c), groups, List.flatMap_append, List.flatMap_cons, List.append_assoc]
  have own : (g.moves.map fun m => m.tag) = (s.newFlight g).tags := by
    cases g <;> rfl
  have job : ∀ m ∈ g.moves, m.job = (s.newFlight g).job := groupsOf_job candidate
  have nodup := hs.queueTags c
  have queued := (hs.row c).idle idle
  refine hs.of_sublist (c := c) ?_ ?_ fun d h => ⟨by rw [queue, if_neg h], by rw [State.groupTaken_flight, if_neg h]⟩
  · have tags : ((s.groupTaken c g).queue c).map (fun m => m.tag) = (s.queue c).map fun m => m.tag := by
      rw [queue, if_pos rfl, markedQueue_tags]
    exact tags ▸ List.Sublist.refl _
  · rw [State.groupTaken_flight, if_pos rfl, queue, if_pos rfl]
    rw [split] at nodup queued ⊢
    exact queueAgrees_lifting (standsInQueue_taken nodup queued own job)

/-- A group that ended, its records QUEUED again or gone. -/
theorem StoreAgrees.ended {c : Slot} {q : List MoveRecord} (tags : (q.map fun m => m.tag).Sublist ((s.queue c).map fun m => m.tag))
    (queued : ∀ m ∈ q, m.state = .queued) (queue : ∀ d, t.queue d = if d = c then q else s.queue d)
    (flight : ∀ d, t.flight d = if d = c then none else s.flight d) : StoreAgrees t := by
  refine hs.of_sublist (c := c) ?_ ?_ fun d h => ⟨by rw [queue, if_neg h], by rw [flight, if_neg h]⟩
  · rwa [queue, if_pos rfl]
  · rw [queue, flight, if_pos rfl, if_pos rfl]
    exact queueAgrees_idle queued

theorem StoreAgrees.groupEvent (h : GroupEvent s t) : StoreAgrees t := by
  have removed : ∀ {c f}, s.flight c = some f → ∀ m ∈ (s.queue c).filter fun m => !f.tags.contains m.tag,
      m.state = .queued := fun {c f} lift => ((hs.row c).lifting f lift).removed
  have fewer : ∀ {c} (p : MoveRecord → Bool), (((s.queue c).filter p).map fun m => m.tag).Sublist
      ((s.queue c).map fun m => m.tag) := fun p => List.filter_sublist.map _
  cases h with
  | taken fitted idle passes ready => exact hs.taken idle ready
  | @landed c f lift =>
    refine hs.ended (fewer _) (removed lift) (fun d => ?_) (s.landGroup_flight c f)
    rw [State.landGroup_fst, State.endFlight, State.reevaluate_queue, State.setCrane_queue, State.setFlight_queue,
      State.removeRecords, State.queue_setQueue]
    simp only [State.appendLog_queue, State.releaseFootprint_queue]
    rw [State.landedReleased_only]
    rfl
  | @givenUp c f lift =>
    have kept : ((markedQueue (s.queue c) f.tags .queued).map fun m => m.tag).Sublist ((s.queue c).map fun m => m.tag) := by
      have tags := markedQueue_tags (s.queue c) f.tags .queued
      exact tags ▸ List.Sublist.refl _
    refine hs.ended (q := markedQueue (s.queue c) f.tags .queued) kept
      (((hs.row c).lifting f lift).givenUp (hs.queueTags c)) (fun d => ?_) (s.giveUpGroup_flight c f)
    rw [State.giveUpGroup, State.endFlight, State.reevaluate_queue, State.setCrane_queue, State.setFlight_queue,
      State.releaseTruck_queue, State.releaseFootprint_queue, State.markRecords_eq, State.queue_setQueue]
  | @forced c f lift =>
    refine hs.ended (fewer _) (removed lift) (fun d => ?_) (s.forceGroup_flight c f)
    rw [State.forceGroup, State.endFlight, State.reevaluate_queue, State.setCrane_queue, State.setFlight_queue,
      State.removeRecords, State.queue_setQueue]
    simp only [State.appendLog_queue, State.releaseFootprint_queue, State.releaseTruck_queue]

omit hs in
/-- A store with no record and no group in flight. -/
theorem storeAgrees_empty (queue : ∀ c, t.queue c = []) (flight : ∀ c, t.flight c = none) : StoreAgrees t := by
  have pool : t.poolCount = 0 := by simp [State.poolCount, queue, all8]
  have tags : t.poolTags = [] := by simp [State.poolTags, queue]
  refine storeAgrees_iff.2 ⟨⟨fun c => by simp [queue], by omega⟩, by simp [tags], fun c => ?_⟩
  rw [queue, flight]
  exact queueAgrees_idle (by simp)

theorem StoreAgrees.happens (h : Happens s t) : StoreAgrees t := by
  cases h with
  | port h => rw [h.only]; exact hs.of_fields rfl fun _ => rfl
  | span h => rw [h.only]; exact hs.of_fields rfl fun _ => rfl
  | setup h =>
    cases h with
    | poweredOn h lines =>
      exact storeAgrees_empty (fun c => by simp [State.queue, State.poweredOn])
        fun c => by simp [State.flight, State.poweredOn]
    | setup => rw [State.enterSetup, State.reevaluate_only]; exact hs.of_fields rfl fun _ => rfl
    | operating => rw [State.enterOperating, State.reevaluate_only]; exact hs.of_fields rfl fun _ => rfl
    | configured => rw [State.applyConfig_only]; exact hs.of_fields rfl fun _ => rfl
  | group h => exact hs.groupEvent h
  | truck h =>
    have only := h.only
    exact hs.of_fields (by rw [only]) h.groups
  | gang h => rw [h.only]; exact hs.of_fields rfl fun _ => rfl
  | berth h =>
    cases h with
    | opened => exact hs.of_fields rfl fun _ => rfl
    | cleared idle => exact storeAgrees_empty (fun c => by simp [State.queue]) idle.1
    | sectionSet => rw [State.changeSection_only]; exact hs.of_fields rfl fun _ => rfl
  | store h => exact hs.storeEvent h

end StoreEvents

/-- Settles O9: each event keeps the pool, the queues and the log, and a step is a run of events. -/
theorem stepKeepsStoreAndLog : Obligations.StepKeepsStoreAndLog := by
  intro s t store log run
  exact step_keeps (P := fun s => StoreAgrees s ∧ LogBounded s)
    (fun s q h => ⟨h.1.of_fields rfl fun _ => rfl, h.2.of_fields ⟨rfl, rfl⟩ fun _ => rfl⟩)
    (fun s t h happens => ⟨h.1.happens happens, h.2.happens happens⟩) ⟨store, log⟩ run

end Sys2Proof.Machine

/-! PROOFS. Claims and grants (R71, R72, R76). -/

namespace Sys2Proof.Machine

section Claims

variable {s : State} {c : Slot} {f : Footprint} {i j : Nat}

theorem Footprint.sections_nodup (f : Footprint) : f.sections.Nodup := by
  cases f <;> simp [Footprint.sections]

/-- A change of several sections, each once. -/
theorem State.changeSections_sectionAt (g : Section → Section) {is : List Nat} (nodup : is.Nodup) (s : State) (i : Nat) :
    (is.foldl (fun s i => s.changeSection i g) s).section? i =
      if i ∈ is then (s.section? i).map g else s.section? i := by
  induction is generalizing s with
  | nil => rfl
  | cons j rest ih =>
    obtain ⟨out, nodup⟩ := List.nodup_cons.1 nodup
    rw [List.foldl_cons, ih nodup, State.sectionAt_changeSection]
    by_cases own : i = j
    · subst own
      simp [out]
    · simp [own]

theorem State.claim_sectionAt (s : State) (c : Slot) (f : Footprint) (i : Nat) : (s.claim c f).section? i =
    (s.section? i).map fun r => { r with claim := if i ∈ f.sections then some c else r.claim } := by
  rw [State.claim, State.changeSections_sectionAt _ f.sections_nodup]
  split <;> simp

theorem State.unclaim_sectionAt (s : State) (f : Footprint) (i : Nat) : (s.unclaim f).section? i =
    (s.section? i).map fun r => { r with claim := if i ∈ f.sections then none else r.claim } := by
  rw [State.unclaim, State.changeSections_sectionAt _ f.sections_nodup]
  split <;> simp

/-- No section within the radius of section `i` is claimed (R75, R76). -/
theorem State.claimNear_eq_false : s.claimNear i = false ↔
    ∀ j q, s.section? j = some q → distance i j ≤ s.config.exclusionRadius → q.claim = none := by
  rw [← Bool.not_eq_true, State.claimNear, State.anyInRadius_iff fun _ => Option.isSome_iff_ne_none]
  exact ⟨fun free j q found near => Classical.byContradiction fun claimed => free ⟨j, q, found, near, claimed⟩,
    fun free ⟨j, q, found, near, claimed⟩ => claimed (free j q found near)⟩

theorem distance_comm (a b : Nat) : distance a b = distance b a := by
  unfold distance
  omega

theorem State.mem_sectionNumbers_iff : i ∈ s.sectionNumbers ↔ 1 ≤ i ∧ i ≤ s.sections.length := by
  simp only [State.sectionNumbers, List.mem_map, List.mem_range]
  constructor
  · rintro ⟨k, hk, rfl⟩; omega
  · exact fun h => ⟨i - 1, by omega, by omega⟩

theorem State.sectionNumbers_ascending (s : State) : s.sectionNumbers.Pairwise (· < ·) := by
  rw [State.sectionNumbers, List.pairwise_map]
  exact List.pairwise_lt_range.imp fun h => by omega

/-- A section free for its waiting list: no gang aboard, and no claim within the radius (R76). -/
theorem State.consider_grants {r : Section} {g : GangId} {rest : List GangId} (found : s.section? i = some r)
    (waiting : r.waiting = g :: rest) (gang : r.gang = none) (near : s.claimNear i = false) :
    s.consider i = (s.changeSection i fun r => { r with gang := some g, waiting := rest }).boardWaiting g i := by
  simp only [State.consider, found, waiting, gang, near, Option.isNone_none, Bool.not_false, Bool.and_self, if_true]

theorem State.boardWaiting_waiting {g : GangId} {head n : Nat} {task : Task} (h : s.gang g = .waiting head n task) :
    s.boardWaiting g i = (s.setGang g (.aboard head n task s.clock false)).send .gang (.grant g i) := by
  rw [State.boardWaiting, h]

/-- Settles O33: a consideration by what the section holds, a release section by section. -/
theorem grantsFollowARelease : Obligations.GrantsFollowARelease := by
  refine ⟨fun s i r found => ⟨fun g rest head task waiting free gang => ?grants, fun idle => ?nothing⟩,
    fun s f => ⟨_, rfl, ?ascending, fun i => ?considered⟩,
    fun s c f i => ⟨s.claim_sectionAt c f i, s.unclaim_sectionAt f i⟩⟩
  case grants =>
    rw [State.consider_grants found waiting free.1 (State.claimNear_eq_false.2 free.2), State.boardWaiting_waiting
      (head := head) (n := i) (task := task) (by rw [State.changeSection_gang, gang]), State.changeSection_clock]
  case nothing =>
    rcases s.consider_cases i with same | ⟨q, g, rest, foundAgain, waiting, gang, near, -⟩
    · exact same
    · obtain rfl := Option.some.inj (found.symm.trans foundAgain)
      rcases idle with empty | busy
      · rw [empty] at waiting; cases waiting
      · exact absurd ⟨gang, State.claimNear_eq_false.1 near⟩ busy
  case ascending => exact s.sectionNumbers_ascending.filter _
  case considered =>
    rw [List.mem_filter, State.mem_sectionNumbers_iff]
    simp [State.inRadius, distance_comm i, and_assoc]

end Claims

end Sys2Proof.Machine

/-! PROOFS. What every step keeps of the sections, the gangs and the claims (chapters 4 and 5): the gangs of the roster and
those of the sections, the claims and the footprints in flight. -/

namespace Sys2Proof.Machine

/-! ### The four parts of the rule -/

/-- The Section Table and the Gang Roster agree, and no claim lies within the radius of a gang aboard (R73, R75, R81). -/
structure GangsAgree (s : State) : Prop where
  aboard : ∀ i r g, s.section? i = some r → (r.gang = some g ↔ (s.gang g).aboardAt i)
  waiting : ∀ i r g, s.section? i = some r → (g ∈ r.waiting ↔ (s.gang g).waitingAt i)
  once : ∀ i r, s.section? i = some r → r.waiting.Nodup
  placed : ∀ g i, (s.gang g).aboardAt i ∨ (s.gang g).waitingAt i → ∃ r, s.section? i = some r
  excluded : ∀ i j r q, s.section? i = some r → s.section? j = some q → r.gang ≠ none → q.claim ≠ none →
    s.config.exclusionRadius < distance i j

/-- Claims are exactly the footprints in flight (R71). -/
def ClaimsAgree (s : State) : Prop := ∀ i r c, s.section? i = some r →
  (r.claim = some c ↔ ∃ f, s.flight c = some f ∧ i ∈ f.footprint.sections)

/-- The sections and the moves are those of the open vessel. -/
structure BerthAgrees (s : State) : Prop where
  noVessel : s.vessel = none → s.sections = [] ∧ (∀ c, s.queue c = []) ∧ ∀ c, s.flight c = none
  count : ∀ v, s.vessel = some v → s.sections.length = v.count

/-- In SETUP there is no group in flight and no gang on the vessel (R80, R169). -/
def SetupIdle (s : State) : Prop := s.mode = .setup → (∀ c, s.flight c = none) ∧ ∀ g, (s.gang g).onVessel = false

theorem sectionsAgree_iff {s : State} :
    SectionsAgree s ↔ GangsAgree s ∧ ClaimsAgree s ∧ BerthAgrees s ∧ SetupIdle s :=
  ⟨fun ⟨noVessel, count, claims, aboard, waiting, once, placed, excluded, setup⟩ =>
    ⟨⟨aboard, waiting, once, placed, excluded⟩, claims, ⟨noVessel, count⟩, setup⟩,
    fun ⟨⟨aboard, waiting, once, placed, excluded⟩, claims, ⟨noVessel, count⟩, setup⟩ =>
      ⟨noVessel, count, claims, aboard, waiting, once, placed, excluded, setup⟩⟩

/-! ### Sections and gangs as these rules see them -/

/-- What the rules see of a section. -/
def Section.seen (r : Section) : Option Slot × Option GangId × List GangId := (r.claim, r.gang, r.waiting)

/-- What the rules see of a gang: where it is aboard or waits. -/
def Gang.place : Gang → Option (Bool × Nat)
  | .off | .ashore _ => none
  | .waiting _ i _ => some (false, i)
  | .aboard _ i _ _ _ => some (true, i)

theorem Gang.aboardAt_iff {x : Gang} {i : Nat} : x.aboardAt i ↔ x.place = some (true, i) := by
  cases x <;> simp [Gang.aboardAt, Gang.place]

theorem Gang.waitingAt_iff {x : Gang} {i : Nat} : x.waitingAt i ↔ x.place = some (false, i) := by
  cases x <;> simp [Gang.waitingAt, Gang.place]

theorem Gang.onVessel_iff {x : Gang} : x.onVessel = x.place.isSome := by
  cases x <;> rfl

/-- The same sections and gangs as far as the rules see them. -/
structure SameDeck (s t : State) : Prop where
  sections : ∀ i, (t.section? i).map Section.seen = (s.section? i).map Section.seen
  gangs : ∀ g, (t.gang g).place = (s.gang g).place

section Deck

variable {s t u : State}

theorem SameDeck.rfl : SameDeck s s := ⟨fun _ => Eq.refl _, fun _ => Eq.refl _⟩

theorem SameDeck.of_fields (sections : t.sections = s.sections) (gangs : t.gangs = s.gangs) : SameDeck s t :=
  ⟨fun i => by cases i <;> simp [State.section?, sections], fun g => by simp [State.gang, gangs]⟩

theorem SameDeck.trans (h : SameDeck s t) (k : SameDeck t u) : SameDeck s u :=
  ⟨fun i => (k.sections i).trans (h.sections i), fun g => (k.gangs g).trans (h.gangs g)⟩

/-- A section of the one is a section of the other, alike. -/
theorem SameDeck.found (h : SameDeck s t) {i : Nat} {r : Section} (found : t.section? i = some r) :
    ∃ q, s.section? i = some q ∧ q.claim = r.claim ∧ q.gang = r.gang ∧ q.waiting = r.waiting := by
  have same := h.sections i
  rw [found, Option.map_some, eq_comm, Option.map_eq_some_iff] at same
  obtain ⟨q, hq, seen⟩ := same
  simp only [Section.seen, Prod.mk.injEq] at seen
  exact ⟨q, hq, seen⟩

theorem SameDeck.symm (h : SameDeck s t) : SameDeck t s := ⟨fun i => (h.sections i).symm, fun g => (h.gangs g).symm⟩

theorem SameDeck.changeSection (i : Nat) {f : Section → Section} (same : ∀ r, (f r).seen = r.seen) :
    SameDeck s (s.changeSection i f) := by
  refine ⟨fun j => ?_, fun g => by rw [State.changeSection_gang]⟩
  rw [State.sectionAt_changeSection]
  split
  · next h => rw [h, Option.map_map]; congr 1; funext r; exact same r
  · exact Eq.refl _

theorem SameDeck.foldl {α : Type} {f : State → α → State} (h : ∀ s a, SameDeck s (f s a)) (l : List α) (s : State) :
    SameDeck s (l.foldl f s) := by
  induction l generalizing s with
  | nil => exact .rfl
  | cons a rest ih => exact (h s a).trans (ih _)

theorem GangsAgree.of_deck (hs : GangsAgree s) (h : SameDeck s t)
    (radius : t.config.exclusionRadius = s.config.exclusionRadius) : GangsAgree t := by
  have aboard : ∀ g i, (t.gang g).aboardAt i ↔ (s.gang g).aboardAt i := fun g i => by
    rw [Gang.aboardAt_iff, Gang.aboardAt_iff, h.gangs]
  have waiting : ∀ g i, (t.gang g).waitingAt i ↔ (s.gang g).waitingAt i := fun g i => by
    rw [Gang.waitingAt_iff, Gang.waitingAt_iff, h.gangs]
  constructor
  · intro i r g found
    obtain ⟨q, hq, -, gang, -⟩ := h.found found
    rw [aboard, ← gang]
    exact hs.aboard i q g hq
  · intro i r g found
    obtain ⟨q, hq, -, -, list⟩ := h.found found
    rw [waiting, ← list]
    exact hs.waiting i q g hq
  · intro i r found
    obtain ⟨q, hq, -, -, list⟩ := h.found found
    exact list ▸ hs.once i q hq
  · intro g i there
    rw [aboard, waiting] at there
    obtain ⟨r, found⟩ := hs.placed g i there
    obtain ⟨q, hq, -⟩ := h.symm.found found
    exact ⟨q, hq⟩
  · intro i j r q hr hq gang claim
    obtain ⟨r', hr', -, gang', -⟩ := h.found hr
    obtain ⟨q', hq', claim', -⟩ := h.found hq
    rw [radius]
    exact hs.excluded i j r' q' hr' hq' (gang' ▸ gang) (claim' ▸ claim)

/-- One section and one gang change together. -/
theorem GangsAgree.update (hs : GangsAgree s) {i : Nat} {g : GangId} {r r' : Section} {x : Gang}
    (found : s.section? i = some r) (sections : ∀ j, t.section? j = if j = i then some r' else s.section? j)
    (gangs : ∀ h, t.gang h = if h = g then x else s.gang h)
    (radius : t.config.exclusionRadius = s.config.exclusionRadius) (claim : r'.claim = r.claim)
    (once : r'.waiting.Nodup) (aboardOther : ∀ h, h ≠ g → (r'.gang = some h ↔ r.gang = some h))
    (aboardOwn : r'.gang = some g ↔ x.aboardAt i) (aboardElse : ∀ j, j ≠ i → (x.aboardAt j ↔ (s.gang g).aboardAt j))
    (waitingOther : ∀ h, h ≠ g → (h ∈ r'.waiting ↔ h ∈ r.waiting)) (waitingOwn : g ∈ r'.waiting ↔ x.waitingAt i)
    (waitingElse : ∀ j, j ≠ i → (x.waitingAt j ↔ (s.gang g).waitingAt j))
    (free : r'.gang ≠ none → r.gang ≠ none ∨ s.claimNear i = false) : GangsAgree t := by
  have own : t.section? i = some r' := by rw [sections, if_pos rfl]
  have other : ∀ {j q}, j ≠ i → t.section? j = some q → s.section? j = some q := fun h hq => by
    rwa [sections, if_neg h] at hq
  have gang : t.gang g = x := by rw [gangs, if_pos rfl]
  have claims : ∀ {j q}, t.section? j = some q → ∃ q', s.section? j = some q' ∧ q'.claim = q.claim := by
    intro j q hq
    by_cases h : j = i
    · subst h
      obtain rfl := Option.some.inj (own.symm.trans hq)
      exact ⟨r, found, claim.symm⟩
    · exact ⟨q, other h hq, rfl⟩
  constructor
  · intro j q h hq
    by_cases hj : j = i
    · subst hj
      obtain rfl := Option.some.inj (own.symm.trans hq)
      by_cases hg : h = g
      · rw [hg, gang]; exact aboardOwn
      · rw [gangs, if_neg hg, aboardOther h hg]
        exact hs.aboard j r h found
    · have old := hs.aboard j q h (other hj hq)
      by_cases hg : h = g
      · rw [hg] at old ⊢; rw [gang, aboardElse j hj]; exact old
      · rw [gangs, if_neg hg]; exact old
  · intro j q h hq
    by_cases hj : j = i
    · subst hj
      obtain rfl := Option.some.inj (own.symm.trans hq)
      by_cases hg : h = g
      · rw [hg, gang]; exact waitingOwn
      · rw [gangs, if_neg hg, waitingOther h hg]
        exact hs.waiting j r h found
    · have old := hs.waiting j q h (other hj hq)
      by_cases hg : h = g
      · rw [hg] at old ⊢; rw [gang, waitingElse j hj]; exact old
      · rw [gangs, if_neg hg]; exact old
  · intro j q hq
    by_cases hj : j = i
    · subst hj
      obtain rfl := Option.some.inj (own.symm.trans hq)
      exact once
    · exact hs.once j q (other hj hq)
  · intro h j there
    by_cases hj : j = i
    · exact ⟨r', hj ▸ own⟩
    · rw [sections, if_neg hj]
      refine hs.placed h j ?_
      by_cases hg : h = g
      · rw [hg] at there ⊢
        rwa [gang, aboardElse j hj, waitingElse j hj] at there
      · rwa [gangs, if_neg hg] at there
  · intro j k q p hq hp gang claim
    obtain ⟨p', hp', claim'⟩ := claims hp
    rw [radius]
    by_cases hj : j = i
    · subst hj
      obtain rfl := Option.some.inj (own.symm.trans hq)
      rcases free gang with was | clear
      · exact hs.excluded j k r p' found hp' was (claim' ▸ claim)
      · exact Nat.lt_of_not_le fun near =>
          claim (claim' ▸ State.claimNear_eq_false.1 clear k p' hp' near)
    · exact hs.excluded j k q p' (other hj hq) hp' gang (claim' ▸ claim)

end Deck

end Sys2Proof.Machine

/-! PROOFS. Gangs and claims agree after every event on them. -/

namespace Sys2Proof.Machine

section GangRules

variable {s t : State}

theorem Gang.place_ashore {n : Nat} : (Gang.ashore n).place = none := rfl

/-- The head of a waiting list boards (R76). -/
theorem GangsAgree.consider (hs : GangsAgree s) (i : Nat) : GangsAgree (s.consider i) := by
  rcases s.consider_cases i with same | ⟨r, g, rest, found, list, free, near, boards⟩
  · rw [same]; exact hs
  · obtain ⟨head, task, waits⟩ := (hs.waiting i r g found).1 (by rw [list]; simp)
    have once := hs.once i r found
    rw [list, List.nodup_cons] at once
    rw [boards, State.boardWaiting_waiting (head := head) (n := i) (task := task) (by rw [State.changeSection_gang, waits])]
    refine hs.update (g := g) (r' := { r with gang := some g, waiting := rest })
      (x := .aboard head i task s.clock false) found (fun j => ?_) (fun h => ?_) ?_ rfl once.2 (fun h hg => ?_) ?_
      (fun j hj => ?_) (fun h hg => ?_) ?_ (fun j hj => ?_) fun _ => .inr near
    · rw [State.send_sectionAt, State.setGang_sectionAt, State.sectionAt_changeSection]
      split
      · rw [found]; rfl
      · rfl
    · rw [State.send_gang, State.gang_setGang, State.changeSection_gang, State.changeSection_clock]
    · rw [State.send_config, State.setGang_config, State.changeSection_config]
    · simp [free, Ne.symm hg]
    · simp [Gang.aboardAt_iff, Gang.place]
    · simp [Gang.aboardAt_iff, Gang.place, waits, Ne.symm hj]
    · simp [list, hg]
    · simp [Gang.waitingAt_iff, Gang.place, once.1]
    · simp [Gang.waitingAt_iff, Gang.place, waits, Ne.symm hj]

/-- A gang ashore boards a section that is free (R75). -/
theorem GangsAgree.board (hs : GangsAgree s) {g : GangId} {n i : Nat} (task : Task) (ashore : s.gang g = .ashore n)
    (free : s.boardsAtOnce i = true) : GangsAgree (s.board g n i task) := by
  simp only [State.boardsAtOnce, Bool.and_eq_true, Option.any_eq_true, Option.isNone_iff_eq_none, List.isEmpty_iff,
    Bool.not_eq_true'] at free
  obtain ⟨⟨r, found, gang, list⟩, near⟩ := free
  refine hs.update (g := g) (r' := { r with gang := some g }) (x := .aboard n i task s.clock false) found
    (fun j => ?_) (fun h => ?_) ?_ rfl (hs.once i r found) (fun h hg => ?_) ?_ (fun j hj => ?_) (fun h hg => .rfl) ?_
    (fun j hj => ?_) fun _ => .inr near
  · rw [State.board, State.setGang_sectionAt, State.sectionAt_changeSection]
    split
    · rw [found]; rfl
    · rfl
  · rw [State.board, State.gang_setGang, State.changeSection_gang]
  · rw [State.board, State.setGang_config, State.changeSection_config]
  · simp [gang, Ne.symm hg]
  · simp [Gang.aboardAt_iff, Gang.place]
  · simp [Gang.aboardAt_iff, Gang.place, ashore, Ne.symm hj]
  · simp [Gang.waitingAt_iff, Gang.place, list]
  · simp [Gang.waitingAt_iff, Gang.place, ashore]

/-- A gang ashore joins the end of a waiting list (R75). -/
theorem GangsAgree.join (hs : GangsAgree s) {g : GangId} {n i : Nat} {r : Section} (task : Task)
    (ashore : s.gang g = .ashore n) (found : s.section? i = some r) : GangsAgree (s.joinWaiting g n i task) := by
  have out : g ∉ r.waiting := fun h => by
    obtain ⟨_, _, waits⟩ := (hs.waiting i r g found).1 h
    rw [ashore] at waits
    cases waits
  have unmanned : r.gang ≠ some g := fun h => by
    obtain ⟨_, _, _, _, aboard⟩ := (hs.aboard i r g found).1 h
    rw [ashore] at aboard
    cases aboard
  refine hs.update (g := g) (r' := { r with waiting := r.waiting ++ [g] }) (x := .waiting n i task) found
    (fun j => ?_) (fun h => ?_) ?_ rfl ?_ (fun h hg => .rfl) ?_ (fun j hj => ?_) (fun h hg => ?_) ?_
    (fun j hj => ?_) .inl
  · rw [State.joinWaiting, State.setGang_sectionAt, State.sectionAt_changeSection]
    split
    · rw [found]; rfl
    · rfl
  · rw [State.joinWaiting, State.gang_setGang, State.changeSection_gang]
  · rw [State.joinWaiting, State.setGang_config, State.changeSection_config]
  · rw [List.nodup_append]
    exact ⟨hs.once i r found, by simp, fun a ha b hb e => out (by rw [List.mem_singleton] at hb; rwa [e, hb] at ha)⟩
  · simpa [Gang.aboardAt_iff, Gang.place] using unmanned
  · simp [Gang.aboardAt_iff, Gang.place, ashore]
  · simp [hg]
  · simp [Gang.waitingAt_iff, Gang.place]
  · simp [Gang.waitingAt_iff, Gang.place, ashore, Ne.symm hj]

/-- Two gangs set, in either order. -/
theorem State.setGang_comm (s : State) {g h : GangId} (x y : Gang) (apart : g ≠ h) :
    (s.setGang g x).setGang h y = (s.setGang h y).setGang g x := by
  simp only [State.setGang, put, Vector.set_comm (xs := s.gangs) x y (Fin.val_ne_of_ne apart)]

theorem State.boardWaiting_setGang (s : State) (i : Nat) {g h : GangId} (x : Gang) (apart : h ≠ g) :
    (s.setGang g x).boardWaiting h i = (s.boardWaiting h i).setGang g x := by
  have sent : ∀ u : State, (u.setGang g x).send .gang (.grant h i) = (u.send .gang (.grant h i)).setGang g x :=
    fun u => by
      have port : (u.setGang g x).port .gang = u.port .gang := rfl
      simp only [State.send, port]
      split <;> rfl
  rw [State.boardWaiting, State.boardWaiting, State.gang_setGang, if_neg apart, ← sent]
  congr 1
  split
  · exact s.setGang_comm _ _ apart.symm
  · rfl

/-- A section considered and a gang set, the gang not at the head of its list: in either order. -/
theorem State.consider_setGang (s : State) (i : Nat) {g : GangId} (x : Gang)
    (other : ∀ r rest, s.section? i = some r → r.waiting ≠ g :: rest) :
    (s.consider i).setGang g x = (s.setGang g x).consider i := by
  have near : (s.setGang g x).claimNear i = s.claimNear i := rfl
  have changed : ∀ f, (s.setGang g x).changeSection i f = (s.changeSection i f).setGang g x := fun _ => by
    cases i <;> rfl
  simp only [State.consider, State.setGang_sectionAt, near]
  cases found : s.section? i with
  | none => rfl
  | some r =>
    cases list : r.waiting with
    | nil => simp only [list]
    | cons h rest =>
      have apart : h ≠ g := fun e => other r rest found (e ▸ list)
      simp only [list, changed, State.boardWaiting_setGang _ i x apart]
      split <;> rfl

end GangRules

end Sys2Proof.Machine

/-! PROOFS. What a gang's event and a group's event keep of the rules of the sections. -/

namespace Sys2Proof.Machine

section GangEvents

variable {s t : State}

/-! ### Gangs -/

/-- A gang aboard leaves, and its section is considered (R90). -/
theorem GangsAgree.exitAboard (hs : GangsAgree s) {g : GangId} {n i : Nat} {task : Task} {last : Time} {overdue : Bool}
    (aboard : s.gang g = .aboard n i task last overdue) : GangsAgree (s.exitAboard g n i) := by
  have here : (s.gang g).aboardAt i := by rw [aboard]; simp [Gang.aboardAt]
  obtain ⟨r, found⟩ := hs.placed g i (.inl here)
  have own := (hs.aboard i r g found).2 here
  have out : g ∉ r.waiting := fun h => by
    obtain ⟨_, _, waits⟩ := (hs.waiting i r g found).1 h
    rw [aboard] at waits
    cases waits
  have sections : ∀ j, (s.changeSection i fun r => { r with gang := none }).section? j =
      if j = i then some { r with gang := none } else s.section? j := fun j => by
    rw [State.sectionAt_changeSection]
    split
    · rw [found]; rfl
    · rfl
  rw [State.exitAboard, State.consider_setGang _ i _ fun q rest hq list => by
    rw [sections, if_pos rfl] at hq
    cases hq
    exact out (by rw [show r.waiting = g :: rest from list]; simp)]
  refine GangsAgree.consider (hs.update (g := g) (r' := { r with gang := none }) (x := .ashore n) found
    (fun j => ?_) (fun h => ?_) ?_ rfl (hs.once i r found) (fun h hg => ?_) ?_ (fun j hj => ?_) (fun h hg => .rfl) ?_
    (fun j hj => ?_) fun h => absurd rfl h) i
  · rw [State.setGang_sectionAt, sections]
  · rw [State.gang_setGang, State.changeSection_gang]
  · rw [State.setGang_config, State.changeSection_config]
  · simp [own, Ne.symm hg]
  · simp [Gang.aboardAt_iff, Gang.place]
  · simp [Gang.aboardAt_iff, Gang.place, aboard, Ne.symm hj]
  · simpa [Gang.waitingAt_iff, Gang.place] using out
  · simp [Gang.waitingAt_iff, Gang.place, aboard]

/-- A waiting gang leaves, and its section is considered where it stood at the head of the list (R91). -/
theorem GangsAgree.exitWaiting (hs : GangsAgree s) {g : GangId} {n i : Nat} {task : Task}
    (waiting : s.gang g = .waiting n i task) : GangsAgree (s.exitWaiting g n i) := by
  have here : (s.gang g).waitingAt i := by rw [waiting]; simp [Gang.waitingAt]
  obtain ⟨r, found⟩ := hs.placed g i (.inr here)
  have unmanned : r.gang ≠ some g := fun h => by
    obtain ⟨_, _, _, _, aboard⟩ := (hs.aboard i r g found).1 h
    rw [waiting] at aboard
    cases aboard
  have sections : ∀ j, (s.changeSection i fun r => { r with waiting := r.waiting.filter (· ≠ g) }).section? j =
      if j = i then some { r with waiting := r.waiting.filter (· ≠ g) } else s.section? j := fun j => by
    rw [State.sectionAt_changeSection]
    split
    · rw [found]; rfl
    · rfl
  have off : GangsAgree ((s.changeSection i fun r => { r with waiting := r.waiting.filter (· ≠ g) }).setGang g
      (.ashore n)) := by
    refine hs.update (g := g) (r' := { r with waiting := r.waiting.filter (· ≠ g) }) (x := .ashore n) found
      (fun j => ?_) (fun h => ?_) ?_ rfl ((hs.once i r found).filter _) (fun h hg => .rfl) ?_ (fun j hj => ?_)
      (fun h hg => ?_) ?_ (fun j hj => ?_) .inl
    · rw [State.setGang_sectionAt, sections]
    · rw [State.gang_setGang, State.changeSection_gang]
    · rw [State.setGang_config, State.changeSection_config]
    · simpa [Gang.aboardAt_iff, Gang.place] using unmanned
    · simp [Gang.aboardAt_iff, Gang.place, waiting]
    · simp [hg]
    · simp [Gang.waitingAt_iff, Gang.place]
    · simp [Gang.waitingAt_iff, Gang.place, waiting, Ne.symm hj]
  rw [State.exitWaiting]
  split
  · rw [State.consider_setGang _ i _ fun q rest hq list => by
      rw [sections, if_pos rfl] at hq
      cases hq
      have : g ∈ r.waiting.filter (· ≠ g) := by rw [show r.waiting.filter (· ≠ g) = g :: rest from list]; simp
      simp at this]
    exact off.consider i
  · exact off

/-- A gang's record changes, its place not. -/
theorem SameDeck.setGang {g : GangId} {x : Gang} (same : x.place = (s.gang g).place) : SameDeck s (s.setGang g x) := by
  refine ⟨fun i => by rw [State.setGang_sectionAt], fun h => ?_⟩
  rw [State.gang_setGang]
  split
  · next own => rw [same, own]
  · rfl

/-- The counters of a gang's work are none of the rules' (R67). -/
theorem SameDeck.countUnits (s : State) (g : GangId) (i : Nat) (task : Task) (n : Nat) :
    SameDeck s (s.countUnits g i task n) := by
  have changed : SameDeck s (s.changeSection i fun r => r.setCounter task (countDown (r.counter task) n)) :=
    .changeSection i fun r => by cases task <;> rfl
  rw [State.countUnits]
  split
  · exact changed.trans (.of_fields (State.raise_sections ..) (State.raise_gangs ..))
  · exact changed

theorem SameDeck.becomeOverdue (s : State) (g : GangId) : SameDeck s (s.becomeOverdue g) := by
  rw [State.becomeOverdue]
  split
  · next head i task last overdue aboard =>
    refine (SameDeck.setGang (s := s) (g := g) (x := .aboard head i task last true) (by rw [aboard]; rfl)).trans
      (.of_fields ?_ ?_)
    · rw [State.send_sections, State.raise_sections]
    · rw [State.send_gangs, State.raise_gangs]
  all_goals exact .rfl

theorem SameDeck.superviseGang (s : State) (g : GangId) : SameDeck s (s.superviseGang g) := by
  rw [State.superviseGang]
  split
  · exact .becomeOverdue s g
  · exact .rfl

/-- The sections of the open vessel are those numbered from 1 to its section count. -/
theorem BerthAgrees.found (hs : BerthAgrees s) {i : Nat} (vessel : s.vessel ≠ none) (low : i ≠ 0)
    (high : i ≤ s.sectionCount) : ∃ r, s.section? i = some r := by
  obtain ⟨v, open_⟩ := Option.ne_none_iff_exists'.1 vessel
  have count := hs.count v open_
  have top : i ≤ v.count := by simpa only [State.sectionCount, open_] using high
  obtain ⟨n, rfl⟩ := Nat.exists_eq_succ_of_ne_zero low
  exact ⟨_, List.getElem?_eq_getElem (by omega)⟩

theorem GangsAgree.gangEvent (hs : GangsAgree s) (berth : BerthAgrees s) (h : GangEvent s t) : GangsAgree t := by
  cases h with
  | signedOn n off => exact hs.of_deck (.setGang (by rw [off]; rfl)) rfl
  | signedOff ashore => exact hs.of_deck (.setGang (by rw [ashore]; rfl)) rfl
  | boarded task mode ashore atOnce => exact hs.board task ashore atOnce
  | joined task mode ashore vessel low high =>
    obtain ⟨r, found⟩ := berth.found vessel low high
    exact hs.join task ashore found
  | counted g i task n => exact hs.of_deck (.countUnits s g i task n) (by rw [State.countUnits_only])
  | checked aboard => exact hs.of_deck (.setGang (by rw [aboard]; rfl)) rfl
  | left aboard => exact hs.exitAboard aboard
  | leftList waiting => exact hs.exitWaiting waiting
  | supervised g => exact hs.of_deck (.superviseGang s g) (by rw [State.superviseGang_only])

/-! ### Claims -/

/-- The same sections, claimed alike. -/
def SameClaims (s t : State) : Prop := ∀ i, (t.section? i).map Section.claim = (s.section? i).map Section.claim

theorem SameClaims.rfl : SameClaims s s := fun _ => Eq.refl _

theorem SameClaims.trans {u : State} (h : SameClaims s t) (k : SameClaims t u) : SameClaims s u :=
  fun i => (k i).trans (h i)

theorem SameClaims.of_sections (same : t.sections = s.sections) : SameClaims s t :=
  fun i => by cases i <;> simp [State.section?, same]

theorem SameDeck.claims (h : SameDeck s t) : SameClaims s t := fun i => by
  have := congrArg (Option.map Prod.fst) (h.sections i)
  rwa [Option.map_map, Option.map_map] at this

theorem SameClaims.changeSection (i : Nat) {f : Section → Section} (same : ∀ r, (f r).claim = r.claim) :
    SameClaims s (s.changeSection i f) := fun j => by
  rw [State.sectionAt_changeSection]
  split
  · next h => rw [h, Option.map_map]; congr 1; funext r; exact same r
  · rfl

/-- States with the same section numbers have as many sections. -/
theorem sections_length_eq (h : ∀ i, (t.section? i).isNone = (s.section? i).isNone) :
    t.sections.length = s.sections.length := by
  have none_iff : ∀ n, t.sections.length ≤ n ↔ s.sections.length ≤ n := fun n => by
    rw [← List.getElem?_eq_none_iff, ← List.getElem?_eq_none_iff, ← Option.isNone_iff_eq_none,
      ← Option.isNone_iff_eq_none]
    exact iff_of_eq (congrArg (· = true) (h (n + 1)))
  exact Nat.le_antisymm ((none_iff _).2 (Nat.le_refl _)) ((none_iff _).1 (Nat.le_refl _))

theorem SameClaims.length (h : SameClaims s t) : t.sections.length = s.sections.length :=
  sections_length_eq fun i => by
    have at_ := congrArg Option.isNone (h i)
    rwa [Option.isNone_map, Option.isNone_map] at at_

theorem State.consider_claims (s : State) (i : Nat) : SameClaims s (s.consider i) := by
  rcases s.consider_cases i with same | ⟨r, g, rest, found, list, free, near, boards⟩
  · rw [same]; exact .rfl
  · rw [boards]
    refine (SameClaims.changeSection i (f := fun r => { r with gang := some g, waiting := rest }) fun _ => rfl).trans
      (.of_sections ?_)
    rw [State.boardWaiting_only]

theorem GangEvent.claims (h : GangEvent s t) : SameClaims s t := by
  cases h with
  | signedOn => exact .rfl
  | signedOff => exact .rfl
  | boarded => exact .changeSection _ fun _ => rfl
  | joined => exact .changeSection _ fun _ => rfl
  | counted g i task n => exact (SameDeck.countUnits s g i task n).claims
  | checked => exact .rfl
  | @left g n i =>
    exact (SameClaims.changeSection i (f := fun r => { r with gang := none }) fun _ => rfl).trans
      ((State.consider_claims _ i).trans (.of_sections rfl))
  | @leftList g n i =>
    have filtered := SameClaims.changeSection (s := s) i (f := fun r => { r with waiting := r.waiting.filter (· ≠ g) })
      fun _ => rfl
    rw [State.exitWaiting]
    split
    · exact filtered.trans ((State.consider_claims _ i).trans (.of_sections rfl))
    · exact filtered.trans (.of_sections rfl)
  | supervised g => exact (SameDeck.superviseGang s g).claims

/-- Claims and flights as they were: they agree as they did. -/
theorem ClaimsAgree.of_claims (hs : ClaimsAgree s) (claims : SameClaims s t)
    (flights : ∀ c, (t.flight c).map Flight.footprint = (s.flight c).map Flight.footprint) : ClaimsAgree t := by
  have lift : ∀ c i, (∃ f, t.flight c = some f ∧ i ∈ f.footprint.sections) ↔
      ∃ f, s.flight c = some f ∧ i ∈ f.footprint.sections := by
    intro c i
    have of_map : ∀ x y : Option Flight, x.map Flight.footprint = y.map Flight.footprint →
        (∃ f, x = some f ∧ i ∈ f.footprint.sections) → ∃ f, y = some f ∧ i ∈ f.footprint.sections := by
      rintro x y same ⟨f, rfl, hi⟩
      rw [Option.map_some, eq_comm, Option.map_eq_some_iff] at same
      obtain ⟨g, rfl, footprint⟩ := same
      exact ⟨g, rfl, footprint ▸ hi⟩
    exact ⟨of_map _ _ (flights c), of_map _ _ (flights c).symm⟩
  intro i r c found
  have same := claims i
  rw [found, Option.map_some, eq_comm, Option.map_eq_some_iff] at same
  obtain ⟨q, hq, seen⟩ := same
  rw [← seen, lift]
  exact hs i q c hq

theorem BerthAgrees.of_claims (hs : BerthAgrees s) (claims : SameClaims s t) (vessel : t.vessel = s.vessel)
    (queues : s.vessel = none → (∀ c, s.queue c = []) → ∀ c, t.queue c = [])
    (flights : ∀ c, (t.flight c).isSome = (s.flight c).isSome) : BerthAgrees t := by
  refine ⟨fun none => ?_, fun v open_ => ?_⟩
  · obtain ⟨sections, queue, flight⟩ := hs.noVessel (vessel ▸ none)
    refine ⟨List.eq_nil_of_length_eq_zero (by rw [claims.length, sections]; rfl), queues (vessel ▸ none) queue,
      fun c => ?_⟩
    have := flights c
    rwa [flight, Option.isSome_none, Option.isSome_eq_false_iff, Option.isNone_iff_eq_none] at this
  · rw [claims.length]
    exact hs.count v (vessel ▸ open_)

theorem SetupIdle.gangEvent (hs : SetupIdle s) (h : GangEvent s t) : SetupIdle t := by
  intro setup
  have mode : t.mode = s.mode := by rw [h.only]
  rw [mode] at setup
  obtain ⟨flight, gang⟩ := hs setup
  refine ⟨fun c => by rw [State.flight, show t.flights = s.flights by rw [h.only]]; exact flight c, fun h' => ?_⟩
  cases h with
  | signedOn => 
    rw [State.gang_setGang]
    split
    · rfl
    · exact gang h'
  | signedOff => 
    rw [State.gang_setGang]
    split
    · rfl
    · exact gang h'
  | boarded _ operating => rw [setup] at operating; cases operating
  | joined _ operating => rw [setup] at operating; cases operating
  | counted g i task n => rw [Gang.onVessel_iff, (SameDeck.countUnits s g i task n).gangs, ← Gang.onVessel_iff, gang]
  | @checked g n i task last overdue aboard =>
    have := gang g
    rw [aboard] at this
    cases this
  | @left g n i task last overdue aboard =>
    have := gang g
    rw [aboard] at this
    cases this
  | @leftList g n i task waiting =>
    have := gang g
    rw [waiting] at this
    cases this
  | supervised g => rw [Gang.onVessel_iff, (SameDeck.superviseGang s g).gangs, ← Gang.onVessel_iff, gang]

end GangEvents

end Sys2Proof.Machine

/-! PROOFS. The rules of the sections after every event. -/

namespace Sys2Proof.Machine

section SectionRules

variable {s t u : State} {c : Slot} {f : Flight}

/-! ### Claims of a group taken, and of a group that ends -/

/-- Claims change, none where a gang is too near. -/
theorem GangsAgree.reclaimed (hs : GangsAgree s) {k : Nat → Section → Option Slot}
    (sections : ∀ i, t.section? i = (s.section? i).map fun r => { r with claim := k i r }) (gangs : t.gangs = s.gangs)
    (radius : t.config.exclusionRadius = s.config.exclusionRadius)
    (apart : ∀ i j r q, s.section? i = some r → s.section? j = some q → r.gang ≠ none → k j q ≠ none →
      q.claim ≠ none ∨ s.config.exclusionRadius < distance i j) : GangsAgree t := by
  have gang : ∀ g, t.gang g = s.gang g := fun g => by rw [State.gang, gangs]; rfl
  have found : ∀ {i r}, t.section? i = some r →
      ∃ q, s.section? i = some q ∧ r.gang = q.gang ∧ r.waiting = q.waiting ∧ r.claim = k i q := by
    intro i r h
    rw [sections, Option.map_eq_some_iff] at h
    obtain ⟨q, hq, rfl⟩ := h
    exact ⟨q, hq, rfl, rfl, rfl⟩
  constructor
  · intro i r g h
    obtain ⟨q, hq, same, -⟩ := found h
    rw [same, gang]
    exact hs.aboard i q g hq
  · intro i r g h
    obtain ⟨q, hq, -, same, -⟩ := found h
    rw [same, gang]
    exact hs.waiting i q g hq
  · intro i r h
    obtain ⟨q, hq, -, same, -⟩ := found h
    rw [same]
    exact hs.once i q hq
  · intro g i there
    rw [gang] at there
    obtain ⟨q, hq⟩ := hs.placed g i there
    exact ⟨_, by rw [sections, hq]; rfl⟩
  · intro i j r q hr hq aboard claim
    obtain ⟨r', hr', gang', -⟩ := found hr
    obtain ⟨q', hq', -, -, claim'⟩ := found hq
    rw [radius]
    rcases apart i j r' q' hr' hq' (gang' ▸ aboard) (claim' ▸ claim) with old | far
    · exact hs.excluded i j r' q' hr' hq' (gang' ▸ aboard) old
    · exact far

theorem GangsAgree.unclaim (hs : GangsAgree s) (f : Footprint) : GangsAgree (s.unclaim f) := by
  refine hs.reclaimed (s.unclaim_sectionAt f) (State.unclaim_gangs ..) (by rw [State.unclaim_config])
    fun i j r q _ _ _ claim => .inl ?_
  intro none
  split at claim
  · exact claim rfl
  · exact claim none

theorem GangsAgree.releaseFootprint (hs : GangsAgree s) (f : Footprint) : GangsAgree (s.releaseFootprint f) := by
  have considered : ∀ (is : List Nat) (s : State), GangsAgree s → GangsAgree (is.foldl State.consider s) := by
    intro is
    induction is with
    | nil => exact fun _ h => h
    | cons i rest ih => exact fun s h => ih _ (h.consider i)
  exact considered _ _ (hs.unclaim f)

theorem SameClaims.releaseFootprint (s : State) (f : Footprint) : SameClaims (s.unclaim f) (s.releaseFootprint f) := by
  have considered : ∀ (is : List Nat) (s : State), SameClaims s (is.foldl State.consider s) := by
    intro is
    induction is with
    | nil => exact fun _ => .rfl
    | cons i rest ih => exact fun s => (s.consider_claims i).trans (ih _)
  exact considered _ _

theorem SameDeck.changeSections (is : List Nat) {g : Section → Section} (same : ∀ r, (g r).seen = r.seen) (s : State) :
    SameDeck s (is.foldl (fun s i => s.changeSection i g) s) :=
  .foldl (fun _ i => .changeSection i same) is s

theorem SameDeck.loadDeckLanded (s : State) (m : MoveRecord) : SameDeck s (s.loadDeckLanded m) :=
  .trans (.changeSections (bayFootprint m.bay).sections (g := fun r => { r with tally := countUp 255 r.tally 1 })
    (by intro _; rfl) s) (.changeSection _ (by intro _; rfl))

theorem SameDeck.dischargeDeckLanded (s : State) (m : MoveRecord) : SameDeck s (s.dischargeDeckLanded m) := by
  refine (SameDeck.changeSections (bayFootprint m.bay).sections (g := fun r => { r with tally := countDown r.tally 1 })
    (by intro _; rfl) s).trans (.of_fields ?_ ?_)
  · rw [State.dischargeDeckLanded, State.raiseFor_only]
  · rw [State.dischargeDeckLanded, State.raiseFor_only]

/-- A fold that carries a mark beside the state. -/
theorem SameDeck.foldl_fst {α : Type} {g : State × Bool → α → State × Bool} (h : ∀ x a, SameDeck x.1 (g x a).1)
    (l : List α) (x : State × Bool) : SameDeck x.1 (l.foldl g x).1 := by
  induction l generalizing x with
  | nil => exact .rfl
  | cons a rest ih => exact (h x a).trans (ih _)

/-- A landing changes counters and hatches only (R130). -/
theorem SameDeck.landed (s : State) (job : Job) (f : Footprint) (ms : List MoveRecord) :
    SameDeck s (s.landed job f ms).1 := by
  unfold State.landed
  split
  · exact .foldl_fst (fun x m => .loadDeckLanded x.1 m) ms (s, false)
  · exact .foldl_fst (fun x m => .dischargeDeckLanded x.1 m) ms (s, false)
  · exact .changeSections _ (by intro _; rfl) s
  · exact .changeSections _ (by intro _; rfl) s
  all_goals exact .rfl

/-- What a group's end does as the rules see it: the footprint released in a state like the one before, and the record
removed. -/
structure FlightEnded (s : State) (c : Slot) (f : Flight) (u t : State) : Prop where
  deck : SameDeck s u
  radius : u.config = s.config
  sections : t.sections = (u.releaseFootprint f.footprint).sections
  gangs : t.gangs = (u.releaseFootprint f.footprint).gangs
  config : t.config = s.config
  flights : ∀ d, t.flight d = if d = c then none else s.flight d

theorem GangsAgree.ended (hs : GangsAgree s) (h : FlightEnded s c f u t) : GangsAgree t :=
  ((hs.of_deck h.deck (by rw [h.radius])).releaseFootprint f.footprint).of_deck (.of_fields h.sections h.gangs)
    (by rw [h.config, State.releaseFootprint_config, h.radius])

/-- Only the sections of a crane's own group are claimed for it, and they are. -/
theorem ClaimsAgree.ended (hs : ClaimsAgree s) (lift : s.flight c = some f) (h : FlightEnded s c f u t) :
    ClaimsAgree t := by
  have claims : SameClaims (u.unclaim f.footprint) t :=
    (SameClaims.releaseFootprint u f.footprint).trans (.of_sections h.sections)
  intro i r d found
  have same := claims i
  rw [found, Option.map_some, State.unclaim_sectionAt, Option.map_map, eq_comm, Option.map_eq_some_iff] at same
  obtain ⟨q, hq, claim⟩ := same
  obtain ⟨p, hp, seen, -⟩ := h.deck.found hq
  rw [← claim, h.flights]
  have old := fun d => hs i p d hp
  rw [seen] at old
  dsimp only [Function.comp]
  by_cases own : d = c
  · subst own
    rw [if_pos rfl]
    split
    · simp
    · next out =>
      rw [old d, lift]
      simpa using out
  · rw [if_neg own]
    split
    · next inside =>
      rw [← old d, (old c).2 ⟨f, lift, inside⟩]
      simp [Ne.symm own]
    · exact old d

theorem State.endFlight_sections (s : State) (c : Slot) : (s.endFlight c).sections = s.sections := by
  rw [State.endFlight, State.reevaluate_sections]; rfl

theorem State.endFlight_gangs (s : State) (c : Slot) : (s.endFlight c).gangs = s.gangs := by
  rw [State.endFlight, State.reevaluate_gangs]; rfl

theorem State.landedReleased_deck (s : State) (c : Slot) (f : Flight) : SameDeck s (s.landedReleased c f) := by
  have landed := SameDeck.landed s f.job f.footprint (s.flightRecords c f)
  unfold State.landedReleased
  split
  · exact landed.trans (.of_fields (by rw [State.releaseTruck_sections]) (by rw [State.releaseTruck_gangs]))
  · exact landed

theorem FlightEnded.landed (s : State) (c : Slot) (f : Flight) (config : (s.landGroup c f).1.config = s.config) :
    FlightEnded s c f (s.landedReleased c f) (s.landGroup c f).1 where
  deck := s.landedReleased_deck c f
  radius := by rw [State.landedReleased_only]
  sections := by
    rw [State.landGroup_fst, State.endFlight_sections, State.removeRecords, State.setQueue_sections,
      State.appendLog_sections]
  gangs := by
    rw [State.landGroup_fst, State.endFlight_gangs, State.removeRecords, State.setQueue_gangs, State.appendLog_gangs]
  config := config
  flights := s.landGroup_flight c f

theorem FlightEnded.forced (s : State) (c : Slot) (f : Flight) (config : (s.forceGroup c f).config = s.config) :
    FlightEnded s c f (s.releaseTruck c f) (s.forceGroup c f) where
  deck := .of_fields (by rw [State.releaseTruck_sections]) (by rw [State.releaseTruck_gangs])
  radius := by rw [State.releaseTruck_config]
  sections := by
    rw [State.forceGroup, State.endFlight_sections, State.removeRecords, State.setQueue_sections,
      State.appendLog_sections]
  gangs := by
    rw [State.forceGroup, State.endFlight_gangs, State.removeRecords, State.setQueue_gangs, State.appendLog_gangs]
  config := config
  flights := s.forceGroup_flight c f

theorem FlightEnded.givenUp (s : State) (c : Slot) (f : Flight) (config : (s.giveUpGroup c f).config = s.config) :
    FlightEnded s c f (s.markRecords c f.tags .queued) (s.giveUpGroup c f) where
  deck := .of_fields rfl rfl
  radius := rfl
  sections := by rw [State.giveUpGroup, State.endFlight_sections, State.releaseTruck_sections]
  gangs := by rw [State.giveUpGroup, State.endFlight_gangs, State.releaseTruck_gangs]
  config := config
  flights := s.giveUpGroup_flight c f

/-! ### A group taken -/

/-- A group taken as the rules see it: its footprint, clear of claims and gangs, claimed for its crane. -/
structure FlightTaken (s : State) (c : Slot) (f : Footprint) (t : State) : Prop where
  idle : s.flight c = none
  sections : ∀ i, t.section? i =
    (s.section? i).map fun r => { r with claim := if i ∈ f.sections then some c else r.claim }
  gangs : t.gangs = s.gangs
  config : t.config = s.config
  own : (t.flight c).map Flight.footprint = some f
  others : ∀ d, d ≠ c → t.flight d = s.flight d
  unclaimed : ∀ i ∈ f.sections, ∀ r, s.section? i = some r → r.claim = none
  unmanned : ∀ i ∈ f.sections, ∀ j r, s.section? j = some r → r.gang ≠ none → s.config.exclusionRadius < distance i j

theorem GangsAgree.taken {f : Footprint} (hs : GangsAgree s) (h : FlightTaken s c f t) : GangsAgree t := by
  refine hs.reclaimed h.sections h.gangs (by rw [h.config]) fun i j r q hr hq gang claim => ?_
  split at claim
  · next inside => exact .inr (distance_comm i j ▸ h.unmanned j inside i r hr gang)
  · exact .inl claim

theorem ClaimsAgree.taken {f : Footprint} (hs : ClaimsAgree s) (h : FlightTaken s c f t) : ClaimsAgree t := by
  intro i r d found
  rw [h.sections, Option.map_eq_some_iff] at found
  obtain ⟨q, hq, rfl⟩ := found
  obtain ⟨lift, new, footprint⟩ := Option.map_eq_some_iff.1 h.own
  have old := fun d => hs i q d hq
  dsimp only
  by_cases own : d = c
  · subst own
    rw [new]
    split
    · next inside => simpa [footprint] using inside
    · next out => simp [old d, h.idle, footprint, out]
  · rw [h.others d own, ← old d]
    split
    · next inside => simp [h.unclaimed i inside q hq, Ne.symm own]
    · rfl

theorem FlightTaken.groupTaken {g : Group} (idle : s.flight c = none) (ready : s.readyGroup c = some g) :
    FlightTaken s c g.footprint (s.groupTaken c g) := by
  have passes : s.groupRefusal c g = none := by
    have := List.find?_some ready
    rwa [Option.isNone_iff_eq_none] at this
  obtain ⟨-, -, unclaimed, unmanned, -⟩ := State.groupRefusal_eq_none.1 passes
  rw [State.anyOf_claimed] at unclaimed
  rw [State.anyNear_aboard] at unmanned
  simp only [not_exists, not_and, Classical.not_not] at unclaimed unmanned
  have flight := s.groupTaken_flight c g
  refine ⟨idle, fun i => ?_, ?_, ?_, ?_, fun d other => ?_, fun i inside r found => unclaimed i r inside found,
    fun i inside j r found gang => Nat.lt_of_not_le fun near => gang (unmanned i j r inside found near)⟩
  · rw [State.groupTaken, State.reevaluate_sectionAt]
    exact State.claim_sectionAt _ c g.footprint i
  · rw [State.groupTaken, State.reevaluate_gangs]
    exact State.claim_gangs ..
  · rw [State.groupTaken, State.reevaluate_config]
    exact State.claim_config ..
  · rw [flight, if_pos rfl]; rfl
  · rw [flight, if_neg other]

theorem GroupEvent.config (h : GroupEvent s t) : t.config = s.config := by
  rw [show t = _ from h.only]

/-- A group's event is the taking of a group in OPERATING with a move queued, or the end of a group in flight. -/
theorem GroupEvent.taken_or_ended (h : GroupEvent s t) :
    (∃ c f, FlightTaken s c f t ∧ s.mode = .operating ∧ s.queue c ≠ []) ∨
      ∃ c f u, FlightEnded s c f u t ∧ s.flight c = some f := by
  have config := h.config
  cases h with
  | @taken c g fitted idle passes ready =>
    simp only [State.takeRefusal, ite_some_eq_none, List.isEmpty_iff] at passes
    exact .inl ⟨c, _, .groupTaken idle ready, Classical.not_not.1 passes.1, passes.2.2.2.1⟩
  | landed lift => exact .inr ⟨_, _, _, .landed s _ _ config, lift⟩
  | givenUp lift => exact .inr ⟨_, _, _, .givenUp s _ _ config, lift⟩
  | forced lift => exact .inr ⟨_, _, _, .forced s _ _ config, lift⟩

theorem FlightEnded.length (h : FlightEnded s c f u t) : t.sections.length = s.sections.length := by
  have released := (SameClaims.releaseFootprint u f.footprint).trans (.of_sections h.sections)
  have unclaimed : (u.unclaim f.footprint).sections.length = u.sections.length := sections_length_eq fun i => by
    rw [State.unclaim_sectionAt, Option.isNone_map]
  rw [released.length, unclaimed, h.deck.claims.length]

theorem BerthAgrees.groupEvent (hs : BerthAgrees s) (h : GroupEvent s t) : BerthAgrees t := by
  have vessel : t.vessel = s.vessel := by rw [show t = _ from h.only]
  rcases h.taken_or_ended with ⟨c, f, taken, -, queued⟩ | ⟨c, f, u, ended, lift⟩
  · refine ⟨fun none => absurd ((hs.noVessel (vessel ▸ none)).2.1 c) queued, fun v open_ => ?_⟩
    rw [← hs.count v (vessel ▸ open_)]
    exact sections_length_eq fun i => by rw [taken.sections, Option.isNone_map]
  · refine ⟨fun none => ?_, fun v open_ => ?_⟩
    · rw [(hs.noVessel (vessel ▸ none)).2.2 c] at lift
      cases lift
    · rw [ended.length, hs.count v (vessel ▸ open_)]

theorem SetupIdle.groupEvent (hs : SetupIdle s) (h : GroupEvent s t) : SetupIdle t := by
  intro setup
  have mode : t.mode = s.mode := by rw [show t = _ from h.only]
  rw [mode] at setup
  rcases h.taken_or_ended with ⟨c, f, -, operating, -⟩ | ⟨c, f, u, -, lift⟩
  · rw [setup] at operating
    cases operating
  · rw [(hs setup).1 c] at lift
    cases lift

/-! ### The other events -/

/-- What leaves alone all that the rules of the sections speak of. -/
structure SameBerth (s t : State) : Prop where
  deck : SameDeck s t
  radius : t.config.exclusionRadius = s.config.exclusionRadius
  idle : t.mode = .setup → (∀ c, s.flight c = none) ∧ ∀ g, (s.gang g).onVessel = false
  vessel : t.vessel = s.vessel
  queues : s.vessel = none → (∀ c, s.queue c = []) → ∀ c, t.queue c = []
  groups : ∀ c, (t.flight c).map Flight.group = (s.flight c).map Flight.group

theorem SectionsAgree.of_same (hs : SectionsAgree s) (h : SameBerth s t) : SectionsAgree t := by
  obtain ⟨gangs, claims, berth, -⟩ := sectionsAgree_iff.1 hs
  have flights : ∀ c, (t.flight c).isSome = (s.flight c).isSome := fun c => by
    rw [← Option.isSome_map (f := Flight.group), h.groups, Option.isSome_map]
  refine sectionsAgree_iff.2 ⟨gangs.of_deck h.deck h.radius, claims.of_claims h.deck.claims fun c => ?_,
    berth.of_claims h.deck.claims h.vessel h.queues flights, fun setup => ?_⟩
  · have := congrArg (Option.map fun x => x.2.2.2) (h.groups c)
    rwa [Option.map_map, Option.map_map] at this
  · obtain ⟨flight, gang⟩ := h.idle setup
    refine ⟨fun c => ?_, fun g => ?_⟩
    · have := flights c
      rwa [flight, Option.isSome_none, Option.isSome_eq_false_iff, Option.isNone_iff_eq_none] at this
    · rw [Gang.onVessel_iff, h.deck.gangs, ← Gang.onVessel_iff, gang]

/-- In SETUP nothing is claimed. -/
theorem SectionsAgree.unclaimed_of_setup (hs : SectionsAgree s) (setup : s.mode = .setup) {i : Nat} {r : Section}
    (found : s.section? i = some r) : r.claim = none := by
  refine Classical.byContradiction fun claimed => ?_
  obtain ⟨c, claim⟩ := Option.ne_none_iff_exists'.1 claimed
  obtain ⟨f, lift, -⟩ := (hs.claims i r c found).1 claim
  rw [(hs.setup setup).1 c] at lift
  cases lift

theorem SectionsAgree.gangEvent (hs : SectionsAgree s) (h : GangEvent s t) : SectionsAgree t := by
  obtain ⟨gangs, claims, berth, idle⟩ := sectionsAgree_iff.1 hs
  have flights : t.flights = s.flights := by rw [h.only]
  have flight : ∀ c, t.flight c = s.flight c := fun c => by rw [State.flight, flights]; rfl
  refine sectionsAgree_iff.2 ⟨gangs.gangEvent berth h, claims.of_claims h.claims fun c => by rw [flight],
    berth.of_claims h.claims (by rw [h.only]) (fun _ empty c => ?_) fun c => by rw [flight], idle.gangEvent h⟩
  rw [State.queue, show t.queues = s.queues by rw [h.only]]
  exact empty c

theorem SectionsAgree.groupEvent (hs : SectionsAgree s) (h : GroupEvent s t) : SectionsAgree t := by
  obtain ⟨gangs, claims, berth, idle⟩ := sectionsAgree_iff.1 hs
  rcases h.taken_or_ended with ⟨c, f, taken, -⟩ | ⟨c, f, u, ended, lift⟩
  · exact sectionsAgree_iff.2 ⟨gangs.taken taken, claims.taken taken, berth.groupEvent h, idle.groupEvent h⟩
  · exact sectionsAgree_iff.2 ⟨gangs.ended ended, claims.ended lift ended, berth.groupEvent h, idle.groupEvent h⟩

/-! ### The berth -/

/-- A vessel without claims, gangs and moves: its sections all as created (Table 1.5). -/
theorem SectionsAgree.fresh (clear : ∀ i r, s.section? i = some r → r.claim = none ∧ r.gang = none ∧ r.waiting = [])
    (gangs : ∀ g, (s.gang g).onVessel = false) (flights : ∀ c, s.flight c = none)
    (none : s.vessel = none → s.sections = [] ∧ ∀ c, s.queue c = [])
    (count : ∀ v, s.vessel = some v → s.sections.length = v.count) : SectionsAgree s := by
  have place : ∀ g, (s.gang g).place = .none := fun g => by
    simpa [Gang.onVessel_iff] using gangs g
  refine ⟨fun h => ⟨(none h).1, (none h).2, flights⟩, count, fun i r c found => ?_, fun i r g found => ?_,
    fun i r g found => ?_, fun i r found => ?_, fun g i there => ?_, fun i j r q hr hq gang claim => ?_,
    fun _ => ⟨flights, gangs⟩⟩
  · simp [(clear i r found).1, flights]
  · simp [(clear i r found).2.1, Gang.aboardAt_iff, place]
  · simp [(clear i r found).2.2, Gang.waitingAt_iff, place]
  · simp [(clear i r found).2.2]
  · simp [Gang.aboardAt_iff, Gang.waitingAt_iff, place] at there
  · exact absurd (clear i r hr).2.1 gang

theorem vesselOf_trims {r : VesselRequest} {v : Vessel} (good : vesselOf r = some v) : v.trims.length = v.count := by
  unfold vesselOf at good
  split at good
  · cases good
  · split at good
    · next good' =>
      obtain rfl := Option.some.inj good
      simp only [Bool.and_eq_true, beq_iff_eq] at good'
      obtain ⟨⟨⟨⟨⟨-, length⟩, -⟩, -⟩, -⟩, -⟩ := good'
      exact length
    · cases good

theorem sections_eq_nil (h : s.sections = []) (i : Nat) : s.section? i = none := by
  cases i <;> simp [State.section?, h]

theorem SectionsAgree.berthEvent (hs : SectionsAgree s) (h : BerthEvent s t) : SectionsAgree t := by
  cases h with
  | @opened r v noVessel good =>
    obtain ⟨empty, queue, flight⟩ := hs.noVessel noVessel
    refine SectionsAgree.fresh (fun i r found => ?_) (fun g => ?_) flight (fun h => nomatch h) fun w open_ => ?_
    · cases i with
      | zero => cases found
      | succ n =>
        have created : r ∈ createdSections v := List.mem_of_getElem? found
        obtain ⟨p, -, rfl⟩ := List.mem_map.1 created
        exact ⟨rfl, rfl, rfl⟩
    · show (s.gang g).onVessel = false
      rw [Gang.onVessel_iff, Option.isSome_eq_false_iff, Option.isNone_iff_eq_none]
      refine Classical.byContradiction fun there => ?_
      obtain ⟨⟨aboard, i⟩, place⟩ := Option.ne_none_iff_exists'.1 there
      have := hs.placed g i (by cases aboard <;> simp [Gang.aboardAt_iff, Gang.waitingAt_iff, place])
      simp [sections_eq_nil empty] at this
    · obtain rfl := Option.some.inj open_
      rw [createdSections_eq (vesselOf_trims good), List.length_map, List.length_range]
  | cleared idle =>
    obtain ⟨flight, gang, -⟩ := idle
    refine SectionsAgree.fresh (fun i r found => ?_) gang flight (fun _ => ⟨rfl, fun c => by simp [State.queue]⟩)
      fun v h => nomatch h
    rw [sections_eq_nil rfl] at found
    cases found
  | sectionSet i q h =>
    refine hs.of_same ⟨.changeSection i fun _ => rfl, by rw [State.changeSection_config], fun setup => ?_,
      State.changeSection_vessel .., fun _ empty c => ?_, fun c => by rw [State.changeSection_flight]⟩
    · rw [State.changeSection_mode] at setup
      exact hs.setup setup
    · rw [State.changeSection_queue]
      exact empty c

/-! ### The whole part -/

theorem SectionsAgree.rescaled (hs : SectionsAgree s) (setup : s.mode = .setup) (cfg : ConfigSet) :
    SectionsAgree { s with config := cfg } :=
  ⟨hs.noVessel, hs.count, hs.claims, hs.aboard, hs.waiting, hs.once, hs.placed,
    fun _ _ _ _ _ hq _ claim => absurd (hs.unclaimed_of_setup setup hq) claim, hs.setup⟩

theorem configStore_exclusionRadius {i : ConfigItem} (h : configSetupOnly i = false) (cfg : ConfigSet) :
    (configStore cfg i).exclusionRadius = cfg.exclusionRadius := by
  cases i with
  | grace | maxRecalls | checkInterval | takeMode | lookahead | alertMask | unknown => rfl
  | _ => simp [configSetupOnly] at h

/-- In OPERATING the exclusion radius stands (Table 10.2). -/
theorem storeItems_exclusionRadius {items : List ConfigItem} (h : ∀ i ∈ items, configSetupOnly i = false)
    (cfg : ConfigSet) : (storeItems cfg items).exclusionRadius = cfg.exclusionRadius := by
  induction items generalizing cfg with
  | nil => rfl
  | cons i rest ih =>
    exact (ih (fun j hj => h j (by simp [hj])) _).trans (configStore_exclusionRadius (h i (by simp)) cfg)

/-- An accepted CONFIG makes no gang board, wait or leave (R94, R172). -/
theorem State.applyConfig_deck (s : State) (items : List ConfigItem) : SameDeck s (s.applyConfig items) := by
  have supervised : ∀ (u : State) old, SameDeck u (u.applyCheckInterval old) := by
    intro u old
    unfold State.applyCheckInterval
    split
    · exact .rfl
    · exact .foldl SameDeck.superviseGang all8 u
  have evaluated : SameDeck s (s.configEvaluated items) := by
    rw [State.configEvaluated_only]; exact .of_fields rfl rfl
  rw [State.applyConfig_eq]
  refine evaluated.trans (.trans (.trans ?_ (supervised _ s.config)) (.of_fields rfl rfl))
  split
  · exact .of_fields (by rw [State.raise_sections, State.raiseTrips_only])
      (by rw [State.raise_gangs, State.raiseTrips_only])
  · exact .of_fields (by rw [State.raiseTrips_only]) (by rw [State.raiseTrips_only])

theorem sectionsAgree_poweredOn (h : Level) (lines : Vector Level 7) : SectionsAgree (State.poweredOn h lines) := by
  refine SectionsAgree.fresh (fun i r found => ?_) (fun g => ?_) (fun c => by simp [State.flight, State.poweredOn])
    (fun _ => ⟨rfl, fun c => by simp [State.queue, State.poweredOn]⟩) fun v h => nomatch h
  · rw [sections_eq_nil rfl] at found
    cases found
  · simp [State.gang, State.poweredOn, Gang.onVessel]

theorem SectionsAgree.setupEvent (hs : SectionsAgree s) (h : SetupEvent s t) : SectionsAgree t := by
  cases h with
  | poweredOn h lines =>
    have on := sectionsAgree_poweredOn h lines
    exact on.of_same ⟨.of_fields rfl rfl, rfl, on.setup, rfl, fun _ h => h, fun _ => rfl⟩
  | setup idle =>
    rw [Bool.or_eq_false_iff] at idle
    rw [State.enterSetup, State.reevaluate_only]
    refine hs.of_same ⟨.of_fields rfl rfl, rfl, fun _ => ?_, rfl, fun _ h => h, fun _ => rfl⟩
    simpa [State.anyFlight, State.anyGang] using idle
  | operating =>
    rw [State.enterOperating, State.reevaluate_only]
    exact hs.of_same ⟨.of_fields rfl rfl, rfl, (nomatch ·), rfl, fun _ h => h, fun _ => rfl⟩
  | @configured items good =>
    obtain ⟨-, -, settable, -⟩ := configRefusal_eq_none good
    have scaled : SectionsAgree { s with config := (s.applyConfig items).config } := by
      by_cases mode : s.mode = .setup
      · exact hs.rescaled mode _
      · have operating : s.mode = .operating := by
          cases h : s.mode with
          | setup => exact absurd h mode
          | operating => rfl
        refine hs.of_same ⟨.of_fields rfl rfl, ?_, fun h => hs.setup h, rfl, fun _ h => h, fun _ => rfl⟩
        rw [State.applyConfig_config]
        exact storeItems_exclusionRadius (fun i hi => settable i hi operating) _
    have deck := s.applyConfig_deck items
    refine scaled.of_same ⟨⟨deck.sections, deck.gangs⟩, rfl, ?_, ?_, ?_, fun c => ?_⟩
    all_goals rw [State.applyConfig_only]
    · exact hs.setup
    · exact fun _ h => h
    · rfl

/-! ### Every event -/

theorem SectionsAgree.storeEvent (hs : SectionsAgree s) (h : StoreEvent s t) : SectionsAgree t := by
  have same : (s.vessel = none → (∀ c, s.queue c = []) → ∀ c, t.queue c = []) → SectionsAgree t := fun queues => by
    have only := h.only
    refine hs.of_same ⟨.of_fields ?_ ?_, ?_, ?_, ?_, queues, fun c => ?_⟩
    all_goals rw [only]
    · exact hs.setup
    · rfl
  cases h with
  | appended vessel | inserted vessel | replaced vessel =>
    exact same fun none => by rw [none] at vessel; cases vessel
  | @deleted c i st tag found free =>
    refine same fun none empty d => ?_
    rw [State.queue_setQueue, empty c, empty d]
    simp
  | pointed => exact same fun _ empty => empty
  | freed => exact same fun _ empty => empty

theorem SectionsAgree.happens (hs : SectionsAgree s) (h : Happens s t) : SectionsAgree t := by
  cases h with
  | port h => rw [h.only]; exact hs.of_same ⟨.of_fields rfl rfl, rfl, hs.setup, rfl, fun _ h => h, fun _ => rfl⟩
  | span h => rw [h.only]; exact hs.of_same ⟨.of_fields rfl rfl, rfl, hs.setup, rfl, fun _ h => h, fun _ => rfl⟩
  | setup h => exact hs.setupEvent h
  | group h => exact hs.groupEvent h
  | truck h =>
    have groups := h.groups
    have only := h.only
    refine hs.of_same ⟨.of_fields ?_ ?_, ?_, ?_, ?_, fun _ => ?_, groups⟩
    all_goals rw [only]
    · exact hs.setup
    · exact id
  | gang h => exact hs.gangEvent h
  | berth h => exact hs.berthEvent h
  | store h => exact hs.storeEvent h

end SectionRules

/-- Settles O8: gangs and claims are kept apart by each event, a boarding and a claim alike checked first. -/
theorem stepKeepsSectionsAgree : Obligations.StepKeepsSectionsAgree := by
  intro s t hs run
  exact step_keeps (P := SectionsAgree)
    (fun s q h => h.of_same ⟨.of_fields rfl rfl, rfl, h.setup, rfl, fun _ h => h, fun _ => rfl⟩)
    (fun s t h happens => h.happens happens) hs run

end Sys2Proof.Machine

/-! PROOFS. The queue of commands, and power-on. -/

namespace Sys2Proof.Machine

/-! ### The queue of commands -/

/-- Settles O1: by the definition of a step. -/
theorem stepRunsTheFrontCommand : Obligations.StepRunsTheFrontCommand := fun _ _ _ => rfl

theorem joinRequest_next (s : State) (c : Slot) (page : Nat) (bad : Bool) (event : State → State × List Telegram) :
    ∃ t, s.joinRequest c page bad event = .next t := ⟨_, rfl⟩

theorem takeTelegram_next (i : Instr) (s : State) : ∃ t, takeTelegram i s = .next t := by
  cases i with
  | joinPage0 c b | joinPage3 c b => cases b <;> exact joinRequest_next ..
  | joinPage12 c b => cases b <;> exact joinRequest_next ..
  | _ => exact ⟨_, rfl⟩

/-- Every command answers a next state. -/
theorem exec_next (i : Instr) (s : State) : ∃ t, exec i s = .next t := by
  cases i with
  | joinPage0 c b => exact takeTelegram_next (.joinPage0 c b) s
  | joinPage12 c b => exact takeTelegram_next (.joinPage12 c b) s
  | joinPage3 c b => exact takeTelegram_next (.joinPage3 c b) s
  | byteArrival p byte stopError =>
    rw [show exec (.byteArrival p byte stopError) s = execByteArrival p byte stopError s from rfl]
    unfold execByteArrival
    repeat' split
    · exact ⟨_, rfl⟩
    · exact ⟨_, rfl⟩
    · exact takeTelegram_next ..
    · exact ⟨_, rfl⟩
  | _ => exact ⟨_, rfl⟩

/-- No event touches the commands that wait. -/
theorem Happens.pending {s t : State} (h : Happens s t) : t.pending = s.pending := by
  cases h with
  | port h => rw [h.only]
  | span h => rw [h.only]
  | setup h =>
    cases h with
    | poweredOn => rfl
    | setup => rw [State.enterSetup, State.reevaluate_pending]
    | operating => rw [State.enterOperating, State.reevaluate_pending]
    | configured => rw [State.applyConfig_only]
  | group h => rw [show t = _ from h.only]
  | truck h => rw [h.only]
  | gang h => rw [h.only]
  | berth h => rw [h.only]
  | store h => rw [h.only]

/-- Settles O2: by cases on the command. -/
theorem everyCommandIsTaken : Obligations.EveryCommandIsTaken := by
  refine ⟨fun i s => ?_, fun s empty => by rw [step, empty]⟩
  obtain ⟨t, run⟩ := exec_next i s
  exact ⟨t, run, (exec_reaches run).keeps (P := fun t => t.pending = s.pending) (fun _ _ h happens =>
    happens.pending.trans h) rfl⟩

/-! ### Power-on -/

theorem valuesInRange_poweredOn (h : Level) (lines : Vector Level 7) : ValuesInRange (State.poweredOn h lines) := by
  have crane : ∀ c, (State.poweredOn h lines).crane c = CraneRecord.reset := fun c => by
    simp [State.crane, State.poweredOn]
  constructor
  case overrides => simp [State.override, State.poweredOn]
  case config => exact configInTables_reset
  all_goals simp [crane, CraneRecord.reset]

/-- Settles O3: field by field. -/
theorem powerOnSetsEveryField : Obligations.PowerOnSetsEveryField := by
  intro h lines s
  refine ⟨_, rfl, rfl, rfl, rfl, rfl, fun c => ?records, rfl, fun k => ?latch, rfl, ?halted, rfl, rfl, rfl, rfl, rfl, rfl,
    rfl, fun a => ?alert, ?attn, fun p => ?port⟩
  case records =>
    simp [State.override, State.crane, State.spanOf, State.watch, State.gang, State.queue, State.flight, State.pointer,
      State.stand, State.poweredOn, CraneRecord.reset, SpanRecord.reset]
  case latch => simp [State.poweredOn]
  case halted => cases h <;> rfl
  case alert => cases h <;> cases a <;> rfl
  case attn => cases h <;> rfl
  case port => cases p <;> simp [State.port, State.poweredOn, Port.reset]

/-- Settles O4: each rule read at the power-on state. -/
theorem powerOnMeetsTheRules : Obligations.PowerOnMeetsTheRules := by
  intro h lines
  have goals : GoalsApart (State.poweredOn h lines) :=
    .none_held fun c => by simp [State.spanOf, State.poweredOn, SpanRecord.reset]
  have store : StoreAgrees (State.poweredOn h lines) :=
    storeAgrees_empty (fun c => by simp [State.queue, State.poweredOn]) fun c => by simp [State.flight, State.poweredOn]
  exact ⟨spanSettled_poweredOn h lines, goals, sectionsAgree_poweredOn h lines, store, logBounded_poweredOn h lines,
    standsAgree_poweredOn h lines, unitsAgree_iff.2 ⟨attnAgrees_poweredOn h lines, linesAgree_poweredOn h lines,
      portsAgree_poweredOn h lines, cranesAgree_poweredOn h lines⟩, valuesInRange_poweredOn h lines, rfl⟩

end Sys2Proof.Machine

/-! PROOFS. The lines of the field, a re-evaluation, and the alerts (sections 3.3, 3.7, 3.8 and 9.4). -/

namespace Sys2Proof.Machine

section FieldLines

variable (s : State)

/-- When a line's pair is tripped (R54, R55). -/
theorem State.tripped_iff (k : LineNo) :
    s.tripped k = true ↔ s.fitted (lineWest k) = true ∧ s.fitted (lineEast k) = true ∧
      match entry s.config.sensorModes k with
      | .disabled => False
      | .rise | .fall | .both => entry s.latches k = true
      | .high => entry s.sensorLevels k = .high
      | .low => entry s.sensorLevels k = .low := by
  unfold State.tripped ConfigSet.serves tripHeld State.fitted
  cases entry s.config.sensorModes k <;> simp [and_assoc]

theorem edgeMatches_eq (m : SensorMode) (level : Level) : edgeMatches m level = match m with
    | .rise => decide (level = .high)
    | .fall => decide (level = .low)
    | .both => true
    | .disabled | .high | .low => false := by
  cases m <;> cases level <;> rfl

/-- A line's state after a change to a level. -/
def State.lineSet (s : State) (k : LineNo) (level : Level) (edge : Bool) : State :=
  { s with
    sensorLevels := put s.sensorLevels k level
    latches := if s.config.serves k && edge then put s.latches k true else s.latches }

theorem State.lineTo_eq (k : LineNo) (level : Level) :
    s.lineTo k level = s.lineSet k level (edgeMatches (entry s.config.sensorModes k) level) := by
  unfold State.lineTo State.lineSet
  dsimp only
  split <;> rfl

theorem State.reevaluate_gap (cs : List Slot) (w e : Slot) : (s.reevaluate cs).gap w e = s.gap w e := by
  simp only [State.gap, State.positionUsed, State.geometry, State.crane, State.override, State.reevaluate_cranes,
    State.reevaluate_config, State.reevaluate_overrides]

/-- The trip of one line begins (R56). -/
theorem State.raiseTrips_one (k : LineNo) : s.raiseTrips [k] =
    if (s.config.nearDistance : Int) ≤ s.gap (lineWest k) (lineEast k) then
      (s.raise .sensorTrip (.line k s.clock)).raise .sensorDisagree
        (.gap k (s.gap (lineWest k) (lineEast k)) s.clock)
    else s.raise .sensorTrip (.line k s.clock) := by
  have number : (⟨k.val % 7, by omega⟩ : LineNo) = k := Fin.ext (Nat.mod_eq_of_lt k.isLt)
  unfold State.raiseTrips
  simp only [List.map_cons, List.map_nil, State.raiseFor, keptFirst, number, List.filter_cons, List.filter_nil,
    decide_eq_true_eq]
  by_cases far : (s.config.nearDistance : Int) ≤ s.gap (lineWest k) (lineEast k)
  · simp only [if_pos far, List.map_cons, List.map_nil, number]
  · simp only [if_neg far, List.map_nil]

/-- A change of a line by its pair's trip before and after (R54, R55, R56). -/
theorem exec_sensorLineChange {k : LineNo} {level : Level} (edge : Bool)
    (matched : edgeMatches (entry s.config.sensorModes k) level = edge) (changed : entry s.sensorLevels k ≠ level) :
    exec (.sensorLineChange k level) s =
      let now := s.lineSet k level edge
      let followed := now.reevaluate [lineWest k, lineEast k]
      let raised := followed.raise .sensorTrip (.line k s.clock)
      let gap := s.gap (lineWest k) (lineEast k)
      .next (match s.tripped k, now.tripped k with
        | false, false | true, true => now
        | true, false => followed
        | false, true =>
          if (s.config.nearDistance : Int) ≤ gap then raised.raise .sensorDisagree (.gap k gap s.clock) else raised) := by
  have line : s.lineTo k level = s.lineSet k level edge := by rw [State.lineTo_eq, matched]
  have run : exec (.sensorLineChange k level) s = .next (if (s.lineTo k level).tripped k = s.tripped k then
      s.lineTo k level
    else if (s.lineTo k level).tripped k then
      ((s.lineTo k level).reevaluate [lineWest k, lineEast k]).raiseTrips [k]
    else (s.lineTo k level).reevaluate [lineWest k, lineEast k]) := congrArg Host.Outcome.next (if_neg changed)
  rw [run, line, State.raiseTrips_one, State.reevaluate_gap, State.reevaluate_config, State.reevaluate_clock]
  dsimp only
  cases s.tripped k <;> cases (s.lineSet k level edge).tripped k <;> rfl

/-- A change of the QUAY-HALT line by the halt before and after (R58, R59). -/
theorem exec_quayHaltChange (level : Level) : exec (.quayHaltChange level) s =
    let now : State := { s with haltLine := level }
    let all := all8.filter s.fitted
    .next (match s.halted, decide (level = s.config.haltPolarity) with
      | false, false | true, true => now
      | true, false => ({ now with halted := false } : State).reevaluate all
      | false, true => (({ now with halted := true } : State).reevaluate all).raise .quayHalt (.halt s.clock)) := by
  have active : (level == s.config.haltPolarity) = decide (level = s.config.haltPolarity) := rfl
  show Host.Outcome.next (State.followHalt { s with haltLine := level }) = _
  unfold State.followHalt
  simp only [active]
  cases s.halted <;> cases decide (level = s.config.haltPolarity) <;> rfl

end FieldLines

/-- Settles O15: a change of a line by its pair's trip before and after, of the halt by the halt before and after. -/
theorem fieldLinesAreFollowed : Obligations.FieldLinesAreFollowed :=
  ⟨State.tripped_iff, fun s _ _ => ⟨fun same => congrArg Host.Outcome.next (if_pos same), fun changed =>
    exec_sensorLineChange s _ (edgeMatches_eq _ _) changed⟩, exec_quayHaltChange⟩

end Sys2Proof.Machine

/-! PROOFS. Alerts raised, read and acknowledged, and what a re-evaluation does (sections 3.3 and 9.4). -/

namespace Sys2Proof.Machine

section Alerts

variable (s : State)

/-! ### Raising an alert (R164) -/

/-- The alert of a bit of the alert mask (Table 11.4). -/
def alertOfBit (i : Fin 12) : Alert :=
  ([.craneLost, .craneDrift, .sensorTrip, .sensorDisagree, .quayHalt, .truckLate, .truckGone, .gangOverdue, .countOverrun,
    .tallyLow, .logBacklog, .windowEmpty] : List Alert)[i]

theorem alertOfBit_bit (a : Alert) : alertOfBit a.bit = a := by cases a <;> rfl

theorem bit_alertOfBit : ∀ i : Fin 12, (alertOfBit i).bit = i := by decide

theorem Alert.bit_injective : Function.Injective Alert.bit := Function.LeftInverse.injective alertOfBit_bit

theorem State.raise_of_set {s : State} {a : Alert} {x : AlertDetail} (set : s.alert a = some x) (d : AlertDetail) :
    s.raise a d = s := by
  rw [State.raise, set]

theorem State.raise_of_clear {s : State} {a : Alert} (clear : s.alert a = none) (d : AlertDetail) :
    s.raise a d = ({ s with alerts := put s.alerts a.bit (some d) } : State).driveAttn := by
  rw [State.raise, clear]

theorem State.raise_alert_other (a : Alert) (d : AlertDetail) {b : Alert} (other : b ≠ a) :
    (s.raise a d).alert b = s.alert b := by
  unfold State.raise
  split
  · rfl
  · exact entry_put_other _ _ (Alert.bit_injective.ne other)

theorem State.raise_alert_same {s : State} {a : Alert} (clear : s.alert a = none) (d : AlertDetail) :
    (s.raise a d).alert a = some d := by
  rw [State.raise_of_clear clear]
  exact entry_put_same ..

theorem State.raise_attn {s : State} {a : Alert} (clear : s.alert a = none) (d : AlertDetail) :
    (s.raise a d).attn = attnLevel (s.raise a d).alerts s.config.alertMask := by
  rw [State.raise_of_clear clear]
  rfl

theorem State.raiseFor_nil (a : Alert) (k : Nat → AlertDetail) : s.raiseFor a [] k = s := rfl

theorem State.raiseFor_of_set {s : State} {a : Alert} {x : AlertDetail} (set : s.alert a = some x) (ns : List Nat)
    (k : Nat → AlertDetail) : s.raiseFor a ns k = s := by
  obtain ⟨-, same⟩ | ⟨n, -, raised⟩ := s.raiseFor_cases a ns k
  · exact same
  · rw [raised, State.raise_of_set set]

theorem State.raiseFor_alert_other (a : Alert) (ns : List Nat) (k : Nat → AlertDetail) {b : Alert} (other : b ≠ a) :
    (s.raiseFor a ns k).alert b = s.alert b := by
  obtain ⟨-, same⟩ | ⟨n, -, raised⟩ := s.raiseFor_cases a ns k
  · rw [same]
  · rw [raised, s.raise_alert_other a _ other]

/-- An alert raised for some numbers is raised for one of them. -/
theorem State.raiseFor_of_some {s : State} {a : Alert} {ns : List Nat} (some_ : ns ≠ [])
    (k : Nat → AlertDetail) : ∃ n ∈ ns, s.raiseFor a ns k = s.raise a (k n) := by
  obtain ⟨empty, -⟩ | raised := s.raiseFor_cases a ns k
  · exact absurd empty some_
  · exact raised

/-- ATTN is asserted while some flag that is set is also in the enable mask (R167). -/
theorem attnLevel_iff (alerts : Vector (Option AlertDetail) 12) (enabled : BitVec 12) : attnLevel alerts enabled = true ↔
    ∃ b : Alert, entry alerts b.bit ≠ none ∧ enabled.getLsbD b.bit.val = true := by
  have all : ∀ i : Fin 12, i ∈ all12 := by decide
  simp only [attnLevel, List.any_eq_true, Bool.and_eq_true, Option.isSome_iff_ne_none]
  constructor
  · rintro ⟨i, -, set, on⟩
    exact ⟨alertOfBit i, by rwa [bit_alertOfBit], by rwa [bit_alertOfBit]⟩
  · rintro ⟨b, set, on⟩
    exact ⟨b.bit, all _, set, on⟩

/-! ### Re-evaluation (R41, R42, R50, R51) -/

theorem State.positionUsed_eq (c : Slot) :
    s.positionUsed c = ((s.crane c).lastPosition).getD (entry s.config.park c) := by
  unfold State.positionUsed
  split <;> simp [*]

theorem State.emptyMarkNow_eq (c : Slot) : s.emptyMarkNow c =
    decide (s.mode = .operating ∧ s.eastBound c < s.westBound c ∧ (s.crane c).slotState = .active) := by
  rw [Bool.eq_iff_iff]
  simp only [State.emptyMarkNow, Window.isEmpty, State.bounds, Bool.and_eq_true, beq_iff_eq, and_assoc,
    decide_eq_true_eq]
  exact and_congr_right fun _ => and_congr_left fun _ => decide_eq_true_iff

theorem State.mem_newlyEmpty {cs : List Slot} {c : Slot} : c ∈ s.newlyEmpty cs ↔
    ((s.reevaluate cs).spanOf c).emptyMark = true ∧ (s.spanOf c).emptyMark = false := by
  have now : ({ s with watches := s.watchesAfter cs } : State).emptyMarkNow c = s.emptyMarkNow c := rfl
  rw [s.reevaluate_spanOf, State.newlyEmpty, List.mem_filter]
  split
  · next named =>
    show _ ↔ ({ s with watches := s.watchesAfter cs } : State).emptyMarkNow c = true ∧ _
    simp [now, named, mem_all8]
  · next out =>
    simp only [mem_all8, true_and, Bool.and_eq_true, List.contains_iff_mem, Bool.not_eq_true']
    constructor
    · rintro ⟨⟨⟨named, fitted⟩, -⟩, -⟩
      exact absurd ⟨named, fitted⟩ out
    · rintro ⟨set, clear⟩
      rw [set] at clear
      cases clear

/-- The number of a slot names it. -/
theorem slotOfNat_val (c : Slot) : slotOfNat c.val = c := Fin.ext (Nat.mod_eq_of_lt c.isLt)

/-- A re-evaluation but for its alert. -/
def State.respanned (s : State) (cs : List Slot) : State :=
  ({ s with watches := s.watchesAfter cs } : State).driveSpan cs

theorem State.reevaluate_eq (cs : List Slot) : s.reevaluate cs = (s.respanned cs).raiseFor .windowEmpty
    ((s.newlyEmpty cs).map fun c => c.val) fun n => .crane (slotOfNat n) s.clock := rfl

/-- Settles O16: the span record by whether the crane is named, the alert by the marks newly set. -/
theorem reevaluationOfCranes : Obligations.ReevaluationOfCranes := by
  rintro s _ cs rfl used gap
  have gap_eq : ∀ w e, s.gap w e = gap w e := fun w e => by simp only [State.gap, State.positionUsed_eq]; rfl
  have clear : (s.respanned cs).alert .windowEmpty = s.alert .windowEmpty := rfl
  refine ⟨gap_eq, s.reevaluate_only cs, fun c named fitted => ?span, fun c out => ?kept, fun w e pair named => ?watch,
    fun w out => ?watchKept, fun a other => ?alert, fun none => ?quiet, fun c new flag => ?raised, fun x flag => ?set⟩
  case span =>
    have conditions := (s.reevaluate_sameInputs cs).conditions (s.reevaluate_watches cs) c (s.bounds c)
    rw [s.reevaluate_spanOf, if_pos ⟨named, fitted⟩, ← s.emptyMarkNow_eq]
    show _ = ({ window := _, goal := _, eastPermit := (s.reevaluate cs).eastCondition c (s.bounds c),
                westPermit := (s.reevaluate cs).westCondition c (s.bounds c), emptyMark := _ } : SpanRecord)
    rw [conditions.1, conditions.2]
    rfl
  case kept =>
    rw [s.reevaluate_spanOf, if_neg]
    rintro ⟨named, fitted⟩
    rcases out with out | unfitted
    · exact out named
    · rw [fitted] at unfitted; cases unfitted
  case watch =>
    rw [s.reevaluate_watch, pair]
    simp only [if_pos named, gap_eq]
    rfl
  case watchKept =>
    rw [s.reevaluate_watch]
    cases pair : s.config.pairEast w with
    | none => rfl
    | some e =>
      obtain ⟨west, east⟩ := out e pair
      simp [west, east]
  case alert => rw [State.reevaluate_eq, State.raiseFor_alert_other _ _ _ _ other]; rfl
  case quiet =>
    have empty : s.newlyEmpty cs = [] := List.eq_nil_iff_forall_not_mem.2 fun c h => none c (s.mem_newlyEmpty.1 h)
    rw [State.reevaluate_eq, empty]
    exact ⟨rfl, rfl⟩
  case raised =>
    have some_ : (s.newlyEmpty cs).map (fun c => c.val) ≠ [] := fun h => by
      have := s.mem_newlyEmpty.2 new
      rw [List.map_eq_nil_iff.1 h] at this
      cases this
    obtain ⟨n, hn, raised⟩ := State.raiseFor_of_some (s := s.respanned cs) (a := .windowEmpty) some_ fun n =>
      .crane (slotOfNat n) s.clock
    obtain ⟨d, hd, rfl⟩ := List.mem_map.1 hn
    refine ⟨⟨d, s.mem_newlyEmpty.1 hd, ?_⟩, ?_⟩
    · rw [State.reevaluate_eq, raised, State.raise_alert_same (clear.trans flag), slotOfNat_val]
    · rw [State.reevaluate_eq, raised, State.raise_attn (clear.trans flag)]
      rfl
  case set =>
    rw [State.reevaluate_eq, State.raiseFor_of_set (clear.trans flag)]
    exact ⟨rfl, rfl⟩

/-! ### Reading and acknowledging (R165, R166, R57) -/

theorem mem_alertFlags (i : Nat) :
    (alertFlags s.alerts).getLsbD i = true ↔ ∃ a : Alert, a.bit.val = i ∧ s.alert a ≠ none := by
  rw [getLsbD_alertFlags]
  constructor
  · rintro ⟨j, rfl, set⟩
    exact ⟨alertOfBit j, by rw [bit_alertOfBit], by rw [State.alert, bit_alertOfBit]; exact Option.isSome_iff_ne_none.1 set⟩
  · rintro ⟨a, rfl, set⟩
    exact ⟨a.bit, rfl, Option.isSome_iff_ne_none.2 set⟩

theorem exec_alertRead : exec (.alertRead (.fields ())) s = .next ((s.heard .plan).send .plan
    (.readReply (.alerts (alertFlags s.alerts) s.alerts (s.config.alertMask.setWidth 16) s.attn) none)) := by
  show s.request .plan .alertRead (.fields ()) alertReadEvent = _
  refine State.planRequest_read ?_
  simp [alertReadEvent]

theorem exec_alertAck {mask : BitVec 16} (good : mask.toNat < 4096) : exec (.alertAck (.fields mask)) s =
    .next (((s.heard .plan).acknowledge mask).send .plan
      (.planAck (.alerts (alertFlags ((s.heard .plan).acknowledge mask).alerts)))) := by
  show s.request .plan .alertAck (.fields mask) alertAckEvent = _
  refine State.planRequest_acked (u := (s.heard .plan).acknowledge mask) ?_ ?_
  · rw [alertAckEvent, if_pos (by simpa [namesAlertsOnly] using good)]
  · rw [State.acknowledge_only]
    rfl

theorem exec_alertAck_refused {mask : BitVec 16} (bad : 4096 ≤ mask.toNat) : exec (.alertAck (.fields mask)) s =
    .next ((s.heard .plan).send .plan (.refuse .alertAck .badValue .none)) := by
  show s.request .plan .alertAck (.fields mask) alertAckEvent = _
  refine State.planRequest_refused ?_
  rw [alertAckEvent, if_neg (by simpa [namesAlertsOnly] using bad)]

theorem edgeMode_eq (m : SensorMode) : (m == .rise || m == .fall || m == .both) = match m with
    | .rise | .fall | .both => true
    | .disabled | .high | .low => false := by
  cases m <;> rfl

/-- An acknowledgement: the flags cleared, ATTN driven, and with SENSOR_TRIP the latches cleared and the cranes of the pairs
they held re-evaluated (R166, R57). -/
theorem State.acknowledge_eq {s : State} (mask : BitVec 16) {held : List LineNo} (trips : s.latchedTrips = held) :
    s.acknowledge mask =
      let now : State := { s with
        alerts := clearedAlerts s.alerts mask
        attn := attnLevel (clearedAlerts s.alerts mask) s.config.alertMask }
      if mask.getLsbD 2 then
        ({ now with latches := Vector.replicate 7 false } : State).reevaluate
          (held.flatMap fun k => [lineWest k, lineEast k])
      else now := by
  subst trips
  rfl

/-- Settles O17: an alert by whether its flag is set, an acknowledgement by what its mask names. -/
theorem alertsAreRaisedReadAndAcknowledged : Obligations.AlertsAreRaisedReadAndAcknowledged := by
  refine ⟨⟨fun s a x d set => State.raise_of_set set d, fun s a d clear => ⟨_, rfl, s.raise_only a d,
    State.raise_alert_same clear d, fun b other => s.raise_alert_other a d other, ?attn⟩⟩,
    fun s mask => ⟨exec_alertRead s, mem_alertFlags s, fun good => ⟨clearedAlerts s.alerts mask,
      entry_clearedAlerts s.alerts mask, ?ack⟩, exec_alertAck_refused s⟩⟩
  case attn =>
    rw [State.raise_attn clear]
    exact attnLevel_iff _ _
  case ack =>
    have held : (s.heard .plan).latchedTrips = all7.filter fun k => s.tripped k &&
        (match entry s.config.sensorModes k with
          | .rise | .fall | .both => true
          | .disabled | .high | .low => false) := by
      refine List.filter_congr fun k _ => ?_
      rw [edgeMode_eq, State.heard_tripped, State.heard_config]
    rw [exec_alertAck s good]
    refine congrArg (fun u : State => Host.Outcome.next (u.send .plan (.planAck (.alerts (alertFlags u.alerts))))) ?_
    have acked := State.acknowledge_eq mask held
    rw [s.heard_alerts, s.heard_config] at acked
    exact acked

end Alerts

end Sys2Proof.Machine

/-! PROOFS. Joins and the timers of a slot (sections 2.3 and 2.4). -/

namespace Sys2Proof.Machine

section Joins

variable {s u : State} {c : Slot} {page : Nat} {event : State → State × List Telegram}

/-! ### A JOIN page answered (R20, R177, R6) -/

/-- A JOIN page on a fitted slot: its event's one reply is sent after it. -/
theorem State.joinRequest_answered {a : Telegram} (fitted : s.fitted c = true)
    (h : event (s.heard (.crane c)) = (u, [a])) (same : u.port (.crane c) = (s.heard (.crane c)).port (.crane c)) :
    s.joinRequest c page false event = .next (u.send (.crane c) a) := by
  rw [State.joinRequest, s.telegramIn_heard (.inl (by simp))]
  exact congrArg _ ((s.heard (.crane c)).answer_one _ _ _ _ (by simpa [fitted] using h) same)

theorem State.joinRequest_unfitted (unfitted : s.fitted c = false) :
    s.joinRequest c page false event = .next ((s.heard (.crane c)).send (.crane c) (.joinAck page .notAllowed)) := by
  rw [State.joinRequest, s.telegramIn_heard (.inl (by simp))]
  exact congrArg _ ((s.heard (.crane c)).answer_one _ _ _ _ (by simp [unfitted, State.answerJoin]) rfl)

theorem State.abandonJoin_port (s : State) (c : Slot) (p : PortId) : (s.abandonJoin c).port p = s.port p := by
  rw [State.abandonJoin_only]
  cases p <;> rfl

theorem State.joinRequest_malformed :
    s.joinRequest c page true event =
      .next (((s.heard (.crane c)).abandonJoin c).send (.crane c) (.joinAck page .pageRange)) := by
  rw [State.joinRequest, s.telegramIn_heard (.inl (by simp))]
  exact congrArg _ ((s.heard (.crane c)).answer_one _ _ _ _ (by simp [State.refuseJoin]) (State.abandonJoin_port ..))

/-- A JOIN page refused on a fitted slot, the join in progress abandoned. -/
theorem State.joinRequest_refused {page' : Nat} {r : JoinResult} (fitted : s.fitted c = true)
    (h : event (s.heard (.crane c)) = (s.heard (.crane c)).refuseJoin c page' r) :
    s.joinRequest c page false event =
      .next (((s.heard (.crane c)).abandonJoin c).send (.crane c) (.joinAck page' r)) :=
  State.joinRequest_answered fitted h (State.abandonJoin_port ..)

theorem State.isJoining_eq (s : State) (c : Slot) : s.isJoining c = (s.crane c).slotState.isJoining := rfl

theorem State.abandonJoin_eq (s : State) (c : Slot) : s.abandonJoin c =
    if (s.crane c).slotState.isJoining then
      (s.setCrane c { s.crane c with slotState := .down, joinTimer := none }).reevaluate (s.concern c)
    else s := rfl

/-! ### Pages taken (R21, R22, R23) -/

theorem exec_joinPage0_taken (fitted : s.fitted c = true) :
    exec (.joinPage0 c (.fields { slot := c.val, revision := 1, follow := 3, more := true })) s =
      .next (((((s.heard (.crane c)).setCrane c { s.crane c with
        slotState := .joining .awaitPage1, joinTimer := some s.config.joinTimer, reportTimer := none }).setSpan c
          { s.spanOf c with goal := none }).reevaluate (s.concern c)).send (.crane c) (.joinAck 0 .ok)) := by
  refine State.joinRequest_answered fitted ?_ (by simp)
  simp [joinPage0Event, State.startJoin, State.clearGoal]

theorem joinMiddleEvent_pageOne {one : Page1} (awaited : (s.crane c).slotState = .joining .awaitPage1)
    (good : page1InRange one = true) : joinMiddleEvent c (.page1 true one) s =
      (s.storePage c (.awaitPage2 one), [.joinAck 1 .ok]) := by
  simp [joinMiddleEvent, awaited, good]

theorem joinMiddleEvent_pageTwo {one : Page1} {two : Page2}
    (awaited : (s.crane c).slotState = .joining (.awaitPage2 one)) (good : page2InRange two = true) :
    joinMiddleEvent c (.page2 true two) s = (s.storePage c (.awaitPage3 one two), [.joinAck 2 .ok]) := by
  simp [joinMiddleEvent, awaited, good]

theorem joinLastEvent_taken {one : Page1} {two : Page2} {three : Page3}
    (awaited : (s.crane c).slotState = .joining (.awaitPage3 one two)) (good : page3InRange three = true) :
    joinLastEvent c { more := false, lanes := three } s =
      (s.completeJoin c { rail := one, hoist := two, lanes := three },
        [.joinAck 3 (if (s.override c).isSome then .overridden else .ok)]) := by
  simp [joinLastEvent, awaited, good]

theorem State.storePage_port (s : State) (c : Slot) (j : Join) (p : PortId) : (s.storePage c j).port p = s.port p := by
  cases p <;> rfl

theorem State.completeJoin_port (s : State) (c : Slot) (g : Geometry) :
    (s.completeJoin c g).port (.crane c) = s.port (.crane c) := by
  rw [State.completeJoin_eq]
  split
  · simp [State.joinDone]
  · simp [State.joinDone]

/-- Settles O18: page by page, each the answer of its event. -/
theorem joinPagesAreTaken : Obligations.JoinPagesAreTaken := by
  refine fun s c fitted => ⟨exec_joinPage0_taken fitted, fun one awaited w1 w2 e1 e2 d1 d2 r v1 v2 => ?one,
    fun one two awaited h1 h2 t1 t2 l1 l2 => ?two, fun one two three awaited good => ?three⟩
  case one =>
    have good : page1InRange one = true := page1InRange_iff.2 ⟨⟨w1, w2⟩, ⟨e1, e2⟩, ⟨d1, d2⟩, r, v1, v2⟩
    refine (State.joinRequest_answered fitted (joinMiddleEvent_pageOne (by simpa using awaited) good)
      (State.storePage_port ..)).trans ?_
    simp [State.storePage]
  case two =>
    have good : page2InRange two = true := page2InRange_iff.2 ⟨⟨h1, h2⟩, ⟨t1, t2⟩, l1, l2⟩
    refine (State.joinRequest_answered fitted (joinMiddleEvent_pageTwo (by simpa using awaited) good)
      (State.storePage_port ..)).trans ?_
    simp [State.storePage]
  case three =>
    refine (State.joinRequest_answered fitted (joinLastEvent_taken (by simpa using awaited) (page3InRange_iff.2 good))
      (State.completeJoin_port ..)).trans ?_
    rw [State.completeJoin_eq, State.heard_override]
    cases overridden : s.override c <;> simp [State.joinDone]

/-! ### Pages turned away (R20, R21, R22) -/

theorem joinMiddleEvent_pageOne_order {more : Bool} {one : Page1} (h : (s.crane c).slotState ≠ .joining .awaitPage1) :
    joinMiddleEvent c (.page1 more one) s = s.refuseJoin c 1 .pageOrder := by
  unfold joinMiddleEvent
  split <;> simp_all

theorem joinMiddleEvent_pageTwo_order {more : Bool} {two : Page2}
    (h : ∀ one, (s.crane c).slotState ≠ .joining (.awaitPage2 one)) :
    joinMiddleEvent c (.page2 more two) s = s.refuseJoin c 2 .pageOrder := by
  unfold joinMiddleEvent
  split <;> simp_all

theorem joinLastEvent_order {p : JoinLast} (h : ∀ one two, (s.crane c).slotState ≠ .joining (.awaitPage3 one two)) :
    joinLastEvent c p s = s.refuseJoin c 3 .pageOrder := by
  unfold joinLastEvent
  split <;> simp_all

theorem joinMiddleEvent_pageOne_range {more : Bool} {one : Page1} (awaited : (s.crane c).slotState = .joining .awaitPage1)
    (bad : more = false ∨ page1InRange one = false) :
    joinMiddleEvent c (.page1 more one) s = s.refuseJoin c 1 .pageRange := by
  rcases bad with bad | bad <;> simp [joinMiddleEvent, awaited, bad]

theorem joinMiddleEvent_pageTwo_range {more : Bool} {one : Page1} {two : Page2}
    (awaited : (s.crane c).slotState = .joining (.awaitPage2 one)) (bad : more = false ∨ page2InRange two = false) :
    joinMiddleEvent c (.page2 more two) s = s.refuseJoin c 2 .pageRange := by
  rcases bad with bad | bad <;> simp [joinMiddleEvent, awaited, bad]

theorem joinLastEvent_range {p : JoinLast} {one : Page1} {two : Page2}
    (awaited : (s.crane c).slotState = .joining (.awaitPage3 one two))
    (bad : p.more = true ∨ page3InRange p.lanes = false) : joinLastEvent c p s = s.refuseJoin c 3 .pageRange := by
  rcases bad with bad | bad <;> simp [joinLastEvent, awaited, bad]

/-- The join in progress abandoned by a page that is heard. -/
theorem State.heard_abandonJoin (s : State) (c : Slot) : (s.heard (.crane c)).abandonJoin c =
    if (s.crane c).slotState.isJoining then
      ((s.heard (.crane c)).setCrane c { s.crane c with slotState := .down, joinTimer := none }).reevaluate (s.concern c)
    else s.heard (.crane c) := by
  rw [State.abandonJoin_eq, State.heard_crane, State.heard_concern]

/-- Settles O19: the refusals in their order, each with the join it abandons. -/
theorem joinPagesTurnedAway : Obligations.JoinPagesTurnedAway := by
  refine ⟨fun _ => page1InRange_iff, fun _ => page2InRange_iff, fun _ => page3InRange_iff, fun s c => ⟨?_, fun out =>
    ⟨fun _ => State.joinRequest_unfitted out, fun _ => State.joinRequest_unfitted out,
      fun _ _ => State.joinRequest_unfitted out, fun _ _ => State.joinRequest_unfitted out,
      fun _ => State.joinRequest_unfitted out⟩⟩⟩
  intro kept back answered
  have answer : ∀ page r, answered page r =
      .next (((s.heard (.crane c)).abandonJoin c).send (.crane c) (.joinAck page r)) := fun page r => by
    rw [State.heard_abandonJoin]
  simp only [answer]
  refine ⟨State.joinRequest_malformed, fun _ => State.joinRequest_malformed, State.joinRequest_malformed, fun fitted =>
    ⟨fun p h => ?slot, fun p own h => ?fields, fun page => ?above, fun more one h => ?order1, fun more two h => ?order2,
      fun p h => ?order3, fun more one h bad => ?range1, fun more two one h bad => ?range2,
      fun p one two h bad => ?range3⟩⟩
  all_goals refine State.joinRequest_refused fitted ?_
  case slot => exact if_pos h
  case fields => simp only [joinPage0Event, own, ne_eq, not_true_eq_false, if_false]; exact if_pos h
  case above => rfl
  case order1 => exact joinMiddleEvent_pageOne_order (by simpa using h)
  case order2 => exact joinMiddleEvent_pageTwo_order (by simpa using h)
  case order3 => exact joinLastEvent_order (by simpa using h)
  case range1 => exact joinMiddleEvent_pageOne_range (by simpa using h) bad
  case range2 => exact joinMiddleEvent_pageTwo_range (by simpa using h) bad
  case range3 => exact joinLastEvent_range (by simpa using h) bad

/-! ### The timers of a slot (R24, R29) -/

/-- Settles O20: each timer by whether it runs. -/
theorem slotTimersRunOut : Obligations.SlotTimersRunOut := by
  refine fun s c => ⟨fun joining running => ?_, fun stopped => ?_, fun running => ?_, fun stopped => ?_⟩
  · refine congrArg Host.Outcome.next ((if_pos running).trans ?_)
    rw [State.abandonJoin_eq, if_pos joining]
  · exact congrArg Host.Outcome.next (if_neg (by simp [stopped]))
  · exact congrArg Host.Outcome.next (if_pos running)
  · exact congrArg Host.Outcome.next (if_neg (by simp [stopped]))

end Joins

end Sys2Proof.Machine

/-! PROOFS. Position reports and lost cranes (sections 2.4, 2.5 and 3.9). -/

namespace Sys2Proof.Machine

section Positions

variable {s : State} {c : Slot}

/-! ### A position taken (R26, R27, R28) -/

/-- A reported position finds the crane adrift of its group's work position for the first time (R28). -/
def State.driftsAt (s : State) (c : Slot) (p : Nat) : Bool :=
  match s.flight c with
  | some f => decide (s.config.bayTolerance < distance p f.workPosition) && !(s.crane c).driftMark
  | none => false

/-- The goal after a reported position (R27). -/
def State.goalAt (s : State) (c : Slot) (p : Nat) : Option Nat :=
  match (s.spanOf c).goal with
  | some g => if distance p g ≤ s.config.arriveTolerance then none else some g
  | none => none

/-- What a position report stores (R26, R27, R28). -/
def State.positionStored (s : State) (c : Slot) (p : Nat) (v : Int) : State :=
  (s.setCrane c { s.crane c with
    slotState := .active, lastPosition := some p, lastVelocity := max (-255) (min 255 v),
    lastReportTime := some s.clock, reportTimer := some s.config.reportLimit,
    driftMark := (s.crane c).driftMark || s.driftsAt c p }).setSpan c { s.spanOf c with goal := s.goalAt c p }

/-- A position report stored, and its alert (R28). -/
def State.driftChecked (s : State) (c : Slot) (p : Nat) (v : Int) : State :=
  match s.flight c with
  | some f =>
    if s.driftsAt c p then (s.positionStored c p v).raise .craneDrift (.drift c f.first s.clock)
    else s.positionStored c p v
  | none => s.positionStored c p v

theorem State.setSpan_self (s : State) (c : Slot) : s.setSpan c (s.spanOf c) = s := by
  simp [State.setSpan, State.spanOf]

theorem State.arriveAtGoal_eq (s : State) (c : Slot) (p : Nat) :
    s.arriveAtGoal c p = s.setSpan c { s.spanOf c with goal := s.goalAt c p } := by
  have same : ∀ g, (s.spanOf c).goal = g → s = s.setSpan c { s.spanOf c with goal := g } := by
    rintro _ rfl
    exact (s.setSpan_self c).symm
  unfold State.arriveAtGoal State.goalAt
  cases goal : (s.spanOf c).goal with
  | none => exact same _ goal
  | some g =>
    dsimp only
    split
    · rfl
    · exact same _ goal

/-- A position report stored, but for the drift mark. -/
def State.arrived (s : State) (c : Slot) (p : Nat) (v : Int) : State :=
  (s.storePosition c { position := p, velocity := v }).setSpan c { s.spanOf c with goal := s.goalAt c p }

theorem State.arrived_still {p : Nat} {v : Int} (still : s.driftsAt c p = false) :
    s.arrived c p v = s.positionStored c p v := by
  simp [State.arrived, State.storePosition, State.positionStored, still, heldVelocity, hold]

theorem State.arrived_drifted {p : Nat} {v : Int} (drifts : s.driftsAt c p = true) :
    (s.arrived c p v).setCrane c { (s.arrived c p v).crane c with driftMark := true } = s.positionStored c p v := by
  simp [State.arrived, State.storePosition, State.positionStored, drifts, heldVelocity, hold, State.setCrane,
    State.setSpan, State.crane]

theorem State.checkDrift_arrived (s : State) (c : Slot) (p : Nat) (v : Int) :
    (s.arrived c p v).checkDrift c p = s.driftChecked c p v := by
  have flight : (s.arrived c p v).flight c = s.flight c := rfl
  have mark : ((s.arrived c p v).crane c).driftMark = (s.crane c).driftMark := by
    simp [State.arrived, State.storePosition]
  have config : (s.arrived c p v).config = s.config := rfl
  unfold State.checkDrift State.driftChecked
  rw [flight, mark, config]
  cases lift : s.flight c with
  | none => exact State.arrived_still (by simp [State.driftsAt, lift])
  | some f =>
    have drifts : s.driftsAt c p = true ↔
        s.config.bayTolerance < distance p f.workPosition ∧ (s.crane c).driftMark = false := by
      simp [State.driftsAt, lift]
    dsimp only
    by_cases adrift : s.driftsAt c p = true
    · rw [if_pos (drifts.1 adrift), if_pos adrift, State.arrived_drifted adrift]
      rfl
    · rw [if_neg (mt drifts.2 adrift), if_neg adrift, State.arrived_still (by simpa using adrift)]

theorem State.takePosition_eq (s : State) (c : Slot) (p : Nat) (v : Int) :
    s.takePosition c { position := p, velocity := v } = (s.driftChecked c p v).reevaluate (s.concern c) := by
  have arrived : (s.storePosition c { position := p, velocity := v }).arriveAtGoal c p = s.arrived c p v :=
    State.arriveAtGoal_eq ..
  have concern : (s.driftChecked c p v).concern c = s.concern c := by
    have config : (s.driftChecked c p v).config = s.config := by
      unfold State.driftChecked
      repeat' split
      · rw [State.raise_config]; rfl
      all_goals rfl
    unfold State.concern State.west State.east State.fitted
    rw [config]
  rw [State.takePosition, arrived, State.checkDrift_arrived, concern]

theorem positionEvent_taken {p : Nat} {v : Int} (enrolled : (s.crane c).slotState = .stale ∨ (s.crane c).slotState = .active) :
    positionEvent c { position := p, velocity := v } s =
      (s.takePosition c { position := p, velocity := v },
        [(s.takePosition c { position := p, velocity := v }).windowReply c (decide (v < -255 ∨ 255 < v))]) := by
  have held : decide (heldVelocity v ≠ v) = decide (v < -255 ∨ 255 < v) := by
    exact decide_eq_decide.2 (by unfold heldVelocity hold; omega)
  rcases enrolled with h | h <;> simp only [positionEvent, h, held]

/-! ### What a WINDOW shows (R60) -/

theorem State.windowReply_shows (s : State) (c : Slot) {x : Window} (clamped : Bool) (window : (s.spanOf c).window = some x) :
    let known : Slot → Prop := fun d => (s.crane d).slotState = .active ∧ (s.crane d).lastPosition ≠ none
    ∃ w : WindowReply, s.windowReply c clamped = .window w ∧
      (w.lo : Int) = max 0 (min 65535 x.lo) ∧ (w.hi : Int) = max 0 (min 65535 x.hi) ∧
      w.eastPermit = (s.spanOf c).eastPermit ∧ w.westPermit = (s.spanOf c).westPermit ∧
      (w.eastNear = true ↔ (∃ d, s.nearestEast c d) ∧ s.watch c = some .near) ∧
      (w.westNear = true ↔ ∃ b, s.nearestWest c b ∧ s.watch b = some .near) ∧
      (w.eastUncertain = true ↔ ∃ d, s.nearestEast c d ∧ ¬ known d) ∧
      (w.westUncertain = true ↔ ∃ b, s.nearestWest c b ∧ ¬ known b) ∧
      w.goal = (s.spanOf c).goal ∧
      (w.saturated = true ↔ x.lo < 0 ∨ 65535 < x.lo ∨ x.hi < 0 ∨ 65535 < x.hi) ∧ w.clamped = clamped := by
  intro known
  have shown : s.window c = x := by rw [State.window, window]
  refine ⟨_, rfl, ?_, ?_, rfl, rfl, ?_, s.westNear_iff c, ?_, ?_, rfl, ?_, rfl⟩
  · rw [shown, heldPosition_eq]
  · rw [shown, heldPosition_eq]
  · rw [s.eastNear_iff c, exists_and_right]
  · simp only [Option.any_eq_true, State.uncertain_iff, State.east_eq_some]; rfl
  · simp only [Option.any_eq_true, State.uncertain_iff, State.west_eq_some]; rfl
  · rw [shown, Window.held_iff]

/-- Settles O21: the report's effects in order, then the WINDOW field by field. -/
theorem positionIsAccepted : Obligations.PositionIsAccepted := by
  refine ⟨fun s c p v fitted enrolled => ?_, State.windowReply_shows⟩
  refine (State.craneRequest_answered fitted (positionEvent_taken (s := s.heard (.crane c)) (by simpa using enrolled))
    ?_).trans ?_
  · rw [State.takePosition_only]
    rfl
  · rw [State.takePosition_eq]
    rfl

end Positions

/-! ### A crane lost (R30, R31, R32, R178) -/

section Lost

variable {s : State} {c : Slot}

theorem State.craneLost_port (s : State) (c : Slot) (p : PortId) : (s.craneLost c).port p = s.port p := by
  simp [State.craneLost, State.clearGoal]

theorem leaveEvent_lost (idle : s.flight c = none) (enrolled : (s.crane c).slotState ≠ .down) :
    leaveEvent c () s = (s.craneLost c, [(s.craneLost c).windowReply c false]) := by
  simp [leaveEvent, idle, enrolled]

/-- A port whose silence timer runs out (R178). -/
theorem exec_linkSilenceExpiry {p : PortId} (running : (s.port p).silence ≠ none) :
    exec (.linkSilenceExpiry p) s = .next ((s.linkDown p).takeLinkLoss p) :=
  congrArg Host.Outcome.next (if_pos (Option.isSome_iff_ne_none.2 running))

theorem exec_leave_cases (s : State) (c : Slot) (fitted : s.fitted c = true) :
    (∀ f, s.flight c = some f → exec (.leave c (.fields ())) s =
       .next ((s.heard (.crane c)).send (.crane c) (.refuse .leave .moveInFlight .none))) ∧
     (s.flight c = none → (s.crane c).slotState = .down → exec (.leave c (.fields ())) s =
       .next ((s.heard (.crane c)).send (.crane c) ((s.heard (.crane c)).windowReply c false))) ∧
     (s.flight c = none → (s.crane c).slotState ≠ .down → exec (.leave c (.fields ())) s =
       .next (((s.heard (.crane c)).craneLost c).send (.crane c)
         (((s.heard (.crane c)).craneLost c).windowReply c false))) := by
  refine ⟨fun f lift => ?lift, fun idle down => ?down, fun idle enrolled => ?leave⟩
  case lift => exact State.craneRequest_refused fitted (by simp [leaveEvent, lift])
  case down => exact State.craneRequest_answered fitted (by simp [leaveEvent, idle, down]) rfl
  case leave =>
    exact State.craneRequest_answered fitted (leaveEvent_lost (by simpa using idle) (by simpa using enrolled))
      (State.craneLost_port ..)

/-- What a crane's port does when its link goes down (R31, R178). -/
theorem State.takeLinkLoss_crane (s : State) (c : Slot) :
    (s.fitted c = false ∨ (s.crane c).slotState = .down →
      (s.linkDown (.crane c)).takeLinkLoss (.crane c) = s.linkDown (.crane c)) ∧
    (s.fitted c = true → (s.crane c).slotState ≠ .down →
      (s.linkDown (.crane c)).takeLinkLoss (.crane c) = (s.linkDown (.crane c)).craneLost c) := by
  have fitted : (s.linkDown (.crane c)).fitted c = s.fitted c := rfl
  have state : (s.linkDown (.crane c)).crane c = s.crane c := rfl
  refine ⟨fun out => if_neg ?_, fun enrolled up => if_pos ?_⟩
  · rw [fitted, state]
    rcases out with out | out <;> simp [out]
  · rw [fitted, state]
    simp [enrolled, up]

/-- Settles O22: LEAVE by the slot's state, the silence timer by its port's owner. -/
theorem craneIsLost : Obligations.CraneIsLost := by
  refine ⟨exec_leave_cases, fun s p => ⟨fun stopped => ?stopped, fun running => ?running⟩⟩
  case stopped => exact congrArg Host.Outcome.next (if_neg (by simp [stopped]))
  case running =>
    rw [exec_linkSilenceExpiry running]
    refine ⟨fun other => ?_, fun c own => ?_⟩
    · rcases other with rfl | rfl | rfl <;> rfl
    · subst own
      obtain ⟨quiet, lost⟩ := s.takeLinkLoss_crane c
      exact ⟨fun out => congrArg Host.Outcome.next (quiet out),
        fun enrolled up => congrArg Host.Outcome.next (lost enrolled up)⟩

end Lost

end Sys2Proof.Machine

/-! PROOFS. Groups taken, their phase reports and their ends (chapter 7). -/

namespace Sys2Proof.Machine

section Takes

variable {s : State} {c : Slot}

/-! ### Records marked and removed (R115), as the statements spell them -/

theorem State.markRecords_eq_map (s : State) (c : Slot) (tags : List Nat) (st : MoveState) :
    s.markRecords c tags st =
      s.setQueue c ((s.queue c).map fun m => if m.tag ∈ tags then { m with state := st } else m) := by
  simp only [State.markRecords, List.contains_iff_mem]

theorem State.removeRecords_eq_filter (s : State) (c : Slot) (tags : List Nat) :
    s.removeRecords c tags = s.setQueue c ((s.queue c).filter fun m => decide (m.tag ∉ tags)) := by
  rw [State.removeRecords]
  congr 2
  funext m
  simp

/-! ### TAKE (R122, R123) -/

theorem State.newFlight_truck (s : State) (g : Group) : (s.newFlight g).truck = match g.firstMove.job with
    | .hatchOff | .hatchOn => .notNeeded
    | .discharge _ | .load _ => .pending := by
  unfold State.newFlight
  cases g.firstMove.job <;> rfl

/-- The first candidate that passes (R122). -/
theorem State.readyGroup_first {passed rest : List Group} {g : Group} (candidates : s.candidates c = passed ++ g :: rest)
    (refused : ∀ h ∈ passed, s.groupRefusal c h ≠ none) (passes : s.groupRefusal c g = none) :
    s.readyGroup c = some g := by
  rw [State.readyGroup, candidates, List.find?_append, List.find?_eq_none.2 fun h member => by
    simpa using refused h member]
  simp [passes]

theorem State.takeGroup_port (s : State) (c : Slot) (g : Group) : (s.takeGroup c g).port (.crane c) = s.port (.crane c) := by
  rw [State.takeGroup_eq]
  simp [State.port, State.groupTaken, State.markRecords]

theorem exec_take_taken {g : Group} (fitted : s.fitted c = true) (idle : s.flight c = none)
    (passes : s.takeRefusal c = none) (ready : s.readyGroup c = some g) : exec (.take c (.fields ())) s =
      .next (((s.heard (.crane c)).takeGroup c g).send (.crane c)
        (((s.heard (.crane c)).takeGroup c g).moveReply c
          ((((s.heard (.crane c)).takeGroup c g).flight c).getD (s.newFlight g)))) := by
  rw [exec_take]
  refine State.craneRequest_answered fitted ?_ (State.takeGroup_port ..)
  simp only [takeEvent, State.heard_flight, idle, State.heard_takeRefusal, passes, State.heard_readyGroup, ready]
  rfl

/-- The group that is taken and its effects, the truck state written as the kind gives it (R123). -/
theorem exec_take_effects {g : Group} {truck : TruckState} (asked : (s.newFlight g).truck = truck)
    (fitted : s.fitted c = true) (idle : s.flight c = none) (passes : s.takeRefusal c = none)
    (ready : s.readyGroup c = some g) : exec (.take c (.fields ())) s =
      let f : Flight := {
        first := g.firstMove.tag, second := g.secondMove.map fun m => m.tag, job := g.firstMove.job,
        phase := .assigned, footprint := g.footprint, workPosition := s.workPosition g.footprint,
        truck := truck, lane := none, truckId := none, recallCount := 0, takenTime := s.clock }
      let assigned := (s.heard (.crane c)).setQueue c ((s.queue c).map fun m =>
        if m.tag ∈ f.tags then { m with state := .assigned } else m)
      let claimed := assigned.claim c g.footprint
      let taken := (claimed.setFlight c (some f)).setCrane c { s.crane c with driftMark := false }
      let t := (taken.reevaluate (s.concern c)).attempt c
      .next (t.send (.crane c) (t.moveReply c ((t.flight c).getD f))) := by
  subst asked
  rw [exec_take_taken fitted idle passes ready, State.takeGroup_eq, State.groupTaken, State.markRecords_eq_map]
  simp only [State.setFlight_crane, State.claim_crane, State.setQueue_crane, State.heard_crane, State.heard_queue,
    State.heard_concern]
  rfl

/-- Settles O25: the first candidate that passes is the one both take modes find. -/
theorem takeTakesTheFirstReadyGroup : Obligations.TakeTakesTheFirstReadyGroup := by
  refine ⟨fun s c passed rest g fitted idle mode running active moves room candidates refused passes => ?_,
    fun s c f => rfl⟩
  have free : s.takeRefusal c = none := by simp [State.takeRefusal, mode, running, active, moves, room]
  exact exec_take_effects (s.newFlight_truck g) fitted idle free (State.readyGroup_first candidates refused passes)

end Takes

/-! ### Phase reports (R125 to R128) -/

section Phases

variable {s : State} {c : Slot} {f : Flight}

/-- A report about the group in flight by the tag of its first move (R125). -/
theorem State.aboutFlight_own {t : RequestType} {event : Flight → State → State × List Telegram}
    (lift : s.flight c = some f) (enrolled : (s.crane c).slotState = .stale ∨ (s.crane c).slotState = .active) :
    s.aboutFlight c t f.first event = event f s := by
  rcases enrolled with state | state <;> simp [State.aboutFlight, state, lift]

/-- A report about the group in flight that changes it and leaves the crane's port alone. -/
theorem State.craneReport_answered {α : Type} {t : RequestType} {x : α} {q : RequestType}
    {event : α → State → State × List Telegram} {about : Flight → State → State × List Telegram} {u : State} {a : Telegram}
    (fitted : s.fitted c = true) (lift : s.flight c = some f)
    (enrolled : (s.crane c).slotState = .stale ∨ (s.crane c).slotState = .active)
    (reads : event x (s.heard (.crane c)) = (s.heard (.crane c)).aboutFlight c q f.first about)
    (h : about f (s.heard (.crane c)) = (u, [a])) (same : u.port (.crane c) = (s.heard (.crane c)).port (.crane c)) :
    s.craneRequest c t (.fields x) event = .next (u.send (.crane c) a) := by
  refine State.craneRequest_answered fitted ?_ same
  rw [reads, State.aboutFlight_own (by simpa using lift) (by simpa using enrolled), h]

end Phases

/-- Settles O27: a report by the phase the group holds. -/
theorem phaseReportsAreTaken : Obligations.PhaseReportsAreTaken := by
  intro s c f fitted lift enrolled kept answered refused locked aloft
  refine ⟨fun phase truck => ?locks, fun phase load away => ?noTruck, fun phase => ?again, fun phase => ?lockedLate,
    fun phase => ?aloftEarly, fun phase => ?aloftAgain, fun phase kind => ?lifts, fun code h2 h3 h4 => ?unknown⟩
  all_goals refine State.craneReport_answered fitted lift enrolled rfl ?_ rfl
  case locks =>
    have served : (f.job.isLoad && f.truck != .present) = false := by
      cases load : f.job.isLoad with
      | false => rfl
      | true => simp [truck load]
    simp [phase, served, phaseReply, kept]
  case noTruck => simp [phase, load, away, refuse, kept]
  case again => simp [phase, phaseReply, kept]
  case lockedLate => simp [phase, refuse, kept]
  case aloftEarly => simp [phase, refuse, kept]
  case aloftAgain => simp [phase, phaseReply, kept]
  case lifts => simp [phase, State.liftGroup, Flight.lifted, kind, phaseReply, kept]
  case unknown => simp [h2, refuse, kept]

/-! ### Trucks released (R128, Table 7.5) -/

section Trucks

variable {s : State} {c : Slot} {f : Flight} {l : Lane}

theorem State.releaseTruck_called {k : Call} {due deadline : Time} {held : Bool} (truck : f.truck = .called)
    (lane : f.lane = some l) (stand : s.stand c l = .called k due deadline held) :
    s.releaseTruck c f = (s.setStand c l .free).send .lane (.cancel k.number c l) := by
  simp [State.releaseTruck, lane, truck, State.cancelStand, stand]

theorem State.releaseTruck_present {k : Call} {id : Nat} (truck : f.truck = .present) (lane : f.lane = some l)
    (stand : s.stand c l = .occupied k id) :
    s.releaseTruck c f = (s.setStand c l (.released k.number id)).send .lane (.depart k.number c l id) := by
  simp [State.releaseTruck, lane, truck, State.departStand, stand]

theorem State.releaseTruck_without
    (without : f.truck = .notNeeded ∨ f.truck = .pending ∨ f.truck = .departed ∨ f.truck = .failed) :
    s.releaseTruck c f = s := by
  unfold State.releaseTruck
  split
  · rfl
  · rcases without with truck | truck | truck | truck <;> simp only [truck]

/-- The ALOFT of a LOAD in LOCKED (R128). -/
theorem exec_phaseAloft_load (fitted : s.fitted c = true) (lift : s.flight c = some f)
    (enrolled : (s.crane c).slotState = .stale ∨ (s.crane c).slotState = .active) (phase : f.phase = .locked)
    (load : f.job.isLoad = true) {lane : Option Lane} (kept : f.laneAloft = lane) :
    exec (.phaseAloft c (.fields f.first)) s =
      .next (((((s.heard (.crane c)).setFlight c (some { f with phase := .aloft, truck := .departed, lane := lane })).releaseTruck
        c f).send (.crane c) (.phaseAck {
          tag := f.first, phase := some .aloft, truck := some .departed, lane := lane, outcome := none,
          saturated := false }))) := by
  subst kept
  refine State.craneReport_answered fitted lift enrolled rfl ?_ ?_
  · simp [phase, State.liftGroup, Flight.lifted, load, phaseReply]
  · rw [State.releaseTruck_port_crane]
    rfl

/-- Settles O28: the truck by its state, for an ALOFT and for the end of a group. -/
theorem trucksAreReleased : Obligations.TrucksAreReleased := by
  refine ⟨fun s c f fitted lift enrolled phase load => ?_, fun s c f => ⟨fun l k due deadline held truck lane stand =>
    State.releaseTruck_called truck lane stand, fun l k id truck lane stand =>
    State.releaseTruck_present truck lane stand, State.releaseTruck_without⟩⟩
  intro gone answered aloft
  have run : ∀ {lane}, f.laneAloft = lane → aloft = answered ((gone lane).releaseTruck c f) lane :=
    fun kept => exec_phaseAloft_load fitted lift enrolled phase load kept
  refine ⟨fun l k id truck lane stand => ?_, fun l k due deadline held truck lane stand => ?_, fun truck => ?_,
    fun truck => ?_⟩
  · rw [run (lane := some l) (by simp [Flight.laneAloft, truck, lane]), State.releaseTruck_present truck lane]
    exact stand
  · rw [run (lane := none) (by simp [Flight.laneAloft, truck]), State.releaseTruck_called truck lane]
    exact stand
  · rw [run (lane := none) (by simp [Flight.laneAloft, truck]), State.releaseTruck_without (by simp [truck])]
  · rw [run (lane := f.lane) (by simp [Flight.laneAloft, truck]), State.releaseTruck_without (by simp [truck])]

end Trucks

end Sys2Proof.Machine

/-! PROOFS. The ends of a group (sections 7.4 and 7.5). -/

namespace Sys2Proof.Machine

section Ends

variable {s u : State} {c : Slot} {f : Flight}

/-- The records of a group in flight, as the statements spell them. -/
theorem State.flightRecords_eq (s : State) (c : Slot) (f : Flight) :
    s.flightRecords c f = f.tags.filterMap fun tag => (s.queue c).find? fun m => m.tag == tag := rfl

theorem State.endFlight_eq (crane : u.crane c = s.crane c) (config : u.config = s.config) : u.endFlight c =
    ((u.setFlight c none).setCrane c { s.crane c with driftMark := false }).reevaluate (s.concern c) := by
  have concern : u.concern c = s.concern c := by
    unfold State.concern State.west State.east State.fitted
    rw [config]
  rw [State.endFlight, State.setFlight_crane, crane, ← concern]
  rfl

/-- The group completed, in the order of R130. -/
theorem State.landGroup_eq (s : State) (c : Slot) (f : Flight) : (s.landGroup c f).1 =
    let counted := s.landed f.job f.footprint (s.flightRecords c f)
    let departed := if f.job.isDischarge then counted.1.releaseTruck c f else counted.1
    let logged := (departed.releaseFootprint f.footprint).appendLog c f.first (s.completions c f .done)
    let removed := logged.setQueue c ((s.queue c).filter fun m => decide (m.tag ∉ f.tags))
    ((removed.setFlight c none).setCrane c { s.crane c with driftMark := false }).reevaluate (s.concern c) := by
  have queue : (s.landedReleased c f).queue c = s.queue c := by rw [s.landedReleased_only c f]; rfl
  have crane : (s.landedReleased c f).crane c = s.crane c := by rw [s.landedReleased_only c f]; rfl
  have config : (s.landedReleased c f).config = s.config := by rw [s.landedReleased_only c f]
  rw [State.landGroup_fst, State.endFlight_eq (s := s), State.removeRecords_eq_filter, State.appendLog_queue,
    State.releaseFootprint_queue, queue]
  · rfl
  · rw [State.removeRecords, State.setQueue_crane, State.appendLog_crane, State.releaseFootprint_crane, crane]
  · rw [State.removeRecords, State.setQueue_config, State.appendLog_config, State.releaseFootprint_config, config]

theorem GroupEvent.port_crane {t : State} (h : GroupEvent s t) (d : Slot) : t.port (.crane d) = s.port (.crane d) := by
  rw [show t = _ from h.only]
  rfl

theorem GroupEvent.port_plan {t : State} (h : GroupEvent s t) : t.port .plan = s.port .plan := by
  rw [show t = _ from h.only]
  rfl

theorem landedEvent_taken (phase : f.phase = .aloft) (truck : f.job.isDischarge = true → f.truck = .present) :
    (match f.phase with
      | .assigned | .locked => refuse .phase .phaseOrder .none s
      | .aloft =>
        if f.job.isDischarge && f.truck != .present then refuse .phase .noTruck .none s
        else ((s.landGroup c f).1, [endReply f.first .landed (s.landGroup c f).2])) =
      ((s.landGroup c f).1, [endReply f.first .landed (s.landGroup c f).2]) := by
  have served : (f.job.isDischarge && f.truck != .present) = false := by
    cases discharge : f.job.isDischarge with
    | false => rfl
    | true => simp [truck discharge]
  simp [phase, served]

/-- Settles O29: the effects in R130's order, and the refusals by phase and truck. -/
theorem landedCompletesTheGroup : Obligations.LandedCompletesTheGroup := by
  intro s c f fitted lift enrolled kept records counted departed released logged removed t landed refused
  refine ⟨fun phase truck => ?lands, fun phase discharge away => ?noTruck, fun early => ?early⟩
  case lands =>
    have lands : GroupEvent kept (kept.landGroup c f).1 := .landed (by simpa [kept] using lift) phase
    have run : landed = .next ((kept.landGroup c f).1.send (.crane c) (endReply f.first .landed (kept.landGroup c f).2)) :=
      State.craneReport_answered fitted lift enrolled rfl (landedEvent_taken phase truck) (lands.port_crane c)
    rw [run, State.landGroup_eq]
    rfl
  case noTruck =>
    exact State.craneReport_answered fitted lift enrolled rfl (by simp [phase, discharge, away, refuse, kept]) rfl
  case early =>
    refine State.craneReport_answered fitted lift enrolled rfl ?_ rfl
    cases phase : f.phase with
    | assigned | locked => simp [refuse, kept]
    | aloft => exact absurd phase early

/-! ### Ends without completion (R132 to R136) -/

/-- The group given up, its records QUEUED again (R134). -/
theorem State.giveUpGroup_eq (s : State) (c : Slot) (f : Flight) : s.giveUpGroup c f =
    let queued := s.setQueue c ((s.queue c).map fun m => if m.tag ∈ f.tags then { m with state := .queued } else m)
    let released := (queued.releaseFootprint f.footprint).releaseTruck c f
    ((released.setFlight c none).setCrane c { s.crane c with driftMark := false }).reevaluate (s.concern c) := by
  rw [State.giveUpGroup, State.endFlight_eq (s := s), State.markRecords_eq_map]
  · rw [State.releaseTruck_crane, State.releaseFootprint_crane, State.markRecords, State.setQueue_crane]
  · rw [State.releaseTruck_config, State.releaseFootprint_config, State.markRecords, State.setQueue_config]

/-- The group of a DOWN crane released (R136). -/
theorem State.forceGroup_eq (s : State) (c : Slot) (f : Flight) : s.forceGroup c f =
    let released := (s.releaseTruck c f).releaseFootprint f.footprint
    let logged := released.appendLog c f.first (s.completions c f .forced)
    let removed := logged.setQueue c ((s.queue c).filter fun m => decide (m.tag ∉ f.tags))
    ((removed.setFlight c none).setCrane c { s.crane c with driftMark := false }).reevaluate (s.concern c) := by
  rw [State.forceGroup, State.endFlight_eq (s := s), State.removeRecords_eq_filter, State.appendLog_queue,
    State.releaseFootprint_queue, State.releaseTruck_queue]
  · rw [State.removeRecords, State.setQueue_crane, State.appendLog_crane, State.releaseFootprint_crane,
      State.releaseTruck_crane]
  · rw [State.removeRecords, State.setQueue_config, State.appendLog_config, State.releaseFootprint_config,
      State.releaseTruck_config]

theorem exec_forceRelease_forced (down : (s.crane c).slotState = .down) (lift : s.flight c = some f) :
    exec (.forceRelease (.fields c.val)) s =
      .next (((s.heard .plan).forceGroup c f).send .plan (.planAck (.forced c f.tags))) := by
  have event : GroupEvent (s.heard .plan) ((s.heard .plan).forceGroup c f) := .forced (by simpa using lift)
  show s.request .plan .forceRelease (.fields c.val) forceEvent = _
  exact State.planRequest_acked (by simp [forceEvent, down, lift]) event.port_plan

theorem exec_forceRelease_refused {n : Nat} {r : Reason} (h : ∀ u, (∀ d, u.crane d = s.crane d) →
    (∀ d, u.flight d = s.flight d) → forceEvent n u = refuse .forceRelease r .none u) :
    exec (.forceRelease (.fields n)) s = .next ((s.heard .plan).send .plan (.refuse .forceRelease r .none)) :=
  State.planRequest_refused (h _ (fun _ => State.heard_crane ..) fun _ => State.heard_flight ..)

/-- Settles O31: each of the three ends, then its refusals. -/
theorem groupEndsWithoutLanding : Obligations.GroupEndsWithoutLanding := by
  refine ⟨fun s c f fitted lift enrolled => ?reported, fun s c f down lift => ?forced, fun s => ⟨fun n out => ?_,
    fun c => ⟨fun up => ?_, fun down idle => ?_⟩⟩⟩
  case reported =>
    intro kept queued released t ended abandon setBack refused
    have givenUp : kept.giveUpGroup c f = t := by rw [State.giveUpGroup_eq]; rfl
    have event : GroupEvent kept t := by
      rw [← givenUp]
      exact .givenUp (by simpa [kept] using lift)
    have port : t.port (.crane c) = kept.port (.crane c) := event.port_crane c
    refine ⟨fun phase => ?abandoned, fun phase => ?aboard, fun kind phase => ?setBack, fun kind phase => ?early,
      fun load => ?notAllowed⟩
    case abandoned =>
      refine State.craneReport_answered fitted lift enrolled rfl ?_ port
      rw [← givenUp]
      cases now : f.phase with
      | assigned | locked => simp [endReply, kept]
      | aloft => exact absurd now phase
    case aboard => exact State.craneReport_answered fitted lift enrolled rfl (by simp [phase, refuse, kept]) rfl
    case setBack =>
      refine State.craneReport_answered fitted lift enrolled rfl ?_ port
      rw [← givenUp]
      simp [phase, kind, endReply, kept]
    case early =>
      refine State.craneReport_answered fitted lift enrolled rfl ?_ rfl
      cases now : f.phase with
      | assigned | locked => simp [kind, refuse, kept]
      | aloft => exact absurd now phase
    case notAllowed => exact State.craneReport_answered fitted lift enrolled rfl (by simp [load, refuse, kept]) rfl
  case forced => rw [exec_forceRelease_forced down lift, State.forceGroup_eq]; rfl
  · exact exec_forceRelease_refused fun u _ _ => by simp [forceEvent, slotOf_eq_none out]
  · exact exec_forceRelease_refused fun u crane _ => by simp [forceEvent, crane, up]
  · exact exec_forceRelease_refused fun u crane flight => by simp [forceEvent, crane, flight, down, idle]

end Ends

end Sys2Proof.Machine

/-! PROOFS. What a landing counts on the sections (section 4.3). -/

namespace Sys2Proof.Machine

section Landings

variable (s : State) (f : Footprint) (m : MoveRecord) (i : Nat)

/-! ### Sections after a landing (R68, R69, R70) -/

theorem State.loadDeckLanded_sectionAt : (s.loadDeckLanded m).section? i = (s.section? i).map fun r => { r with
    tally := if i ∈ (bayFootprint m.bay).sections then min 255 (r.tally + 1) else r.tally
    lash := if i = (bayFootprint m.bay).lowest then min 1023 (r.lash + m.lash) else r.lash } := by
  have tallied := State.changeSections_sectionAt (fun r => { r with tally := countUp 255 r.tally 1 })
    (bayFootprint m.bay).sections_nodup s
  rw [State.loadDeckLanded, State.sectionAt_changeSection]
  by_cases lowest : i = (bayFootprint m.bay).lowest
  · rw [if_pos lowest, ← lowest, tallied]
    split <;> cases s.section? i <;> simp [*, countUp]
  · rw [if_neg lowest, tallied]
    split <;> simp [*, countUp]

theorem State.dischargeDeckLanded_sectionAt : (s.dischargeDeckLanded m).section? i = (s.section? i).map fun r => { r with
    tally := if i ∈ (bayFootprint m.bay).sections then r.tally - 1 else r.tally } := by
  rw [State.dischargeDeckLanded, State.raiseFor_sectionAt, State.changeSections_sectionAt _ (Footprint.sections_nodup _)]
  split <;> simp [*, countDown]

theorem State.setHatches_sectionAt (h : Hatch) : (s.setHatches f h).section? i = (s.section? i).map fun r => { r with
    hatch := if i ∈ f.sections then h else r.hatch } := by
  rw [State.setHatches, State.changeSections_sectionAt _ (Footprint.sections_nodup _)]
  split <;> simp [*]

/-! ### Values held, and TALLY_LOW (R69) -/

theorem State.loadDeckHeld_iff : s.loadDeckHeld m = true ↔
    (∃ i r, i ∈ (bayFootprint m.bay).sections ∧ s.section? i = some r ∧ 255 < r.tally + 1) ∨
      ∃ r, s.section? (bayFootprint m.bay).lowest = some r ∧ 1023 < r.lash + m.lash := by
  simp only [State.loadDeckHeld, Bool.or_eq_true, List.any_eq_true, Option.any_eq_true, decide_eq_true_eq]
  simp only [← exists_and_left]

/-- A section of the move's footprint whose deck tally is 0. -/
theorem State.mem_tallyLowAt : i ∈ s.tallyLowAt m ↔
    i ∈ (bayFootprint m.bay).sections ∧ ∃ r, s.section? i = some r ∧ r.tally = 0 := by
  simp [State.tallyLowAt, Option.any_eq_true]

theorem State.tallyLowAt_some : (!(s.tallyLowAt m).isEmpty) = true ↔
    ∃ i r, i ∈ (bayFootprint m.bay).sections ∧ s.section? i = some r ∧ r.tally = 0 := by
  rw [Bool.not_eq_true', List.isEmpty_eq_false_iff_exists_mem]
  simp only [State.mem_tallyLowAt, exists_and_left]

/-- The counters of a discharge move taken down, before the alert. -/
def State.tallied (s : State) (m : MoveRecord) : State :=
  (bayFootprint m.bay).sections.foldl (fun s i => s.changeSection i fun r => { r with tally := countDown r.tally 1 }) s

theorem State.tallied_only (s : State) (m : MoveRecord) : s.tallied m = { s with sections := (s.tallied m).sections } :=
  State.changeSections_only ..

theorem State.dischargeDeckLanded_eq : s.dischargeDeckLanded m =
    (s.tallied m).raiseFor .tallyLow (s.tallyLowAt m) fun i => .tally i m.tag s.clock := rfl

/-- TALLY_LOW at a discharge: raised where some tally is 0 and the flag is clear, else as it stands (R69). -/
theorem State.dischargeDeckLanded_alerts :
    let t := s.dischargeDeckLanded m
    let low : Nat → Prop := fun i =>
      i ∈ (bayFootprint m.bay).sections ∧ ∃ r, s.section? i = some r ∧ r.tally = 0
    (∀ i, low i → s.alert .tallyLow = none →
      (∃ j, low j ∧ t.alert .tallyLow = some (.tally j m.tag s.clock)) ∧
        (∀ a, a ≠ .tallyLow → t.alert a = s.alert a) ∧ t.attn = attnLevel t.alerts s.config.alertMask) ∧
    ((∀ i, ¬ low i) ∨ s.alert .tallyLow ≠ none → t.alerts = s.alerts ∧ t.attn = s.attn) := by
  intro t low
  have alert : ∀ a, (s.tallied m).alert a = s.alert a := fun a => by rw [State.tallied_only]; rfl
  have config : (s.tallied m).config = s.config := by rw [State.tallied_only]
  have same : t = s.tallied m → t.alerts = s.alerts ∧ t.attn = s.attn := fun h => by
    rw [h, State.tallied_only]
    exact ⟨rfl, rfl⟩
  refine ⟨fun i here clear => ?_, fun quiet => same ?_⟩
  · obtain ⟨j, hj, raised⟩ := State.raiseFor_of_some (s := s.tallied m) (a := .tallyLow)
      (List.ne_nil_of_mem ((s.mem_tallyLowAt m i).2 here)) fun i => .tally i m.tag s.clock
    have after : t = (s.tallied m).raise .tallyLow (.tally j m.tag s.clock) := raised
    rw [after]
    refine ⟨⟨j, (s.mem_tallyLowAt m j).1 hj, State.raise_alert_same ((alert _).trans clear) _⟩, fun a other => ?_, ?_⟩
    · rw [State.raise_alert_other _ _ _ other, alert]
    · rw [State.raise_attn ((alert _).trans clear), config]
  · rcases quiet with none | set
    · have empty : s.tallyLowAt m = [] :=
        List.eq_nil_iff_forall_not_mem.2 fun i h => none i ((s.mem_tallyLowAt m i).1 h)
      show s.dischargeDeckLanded m = _
      rw [State.dischargeDeckLanded_eq, empty]
      rfl
    · obtain ⟨x, flag⟩ := Option.ne_none_iff_exists'.1 set
      exact State.raiseFor_of_set ((alert _).trans flag) _ _

/-- Settles O30: one move at a time, a section counted once per move. -/
theorem landingCountsOnTheSections : Obligations.LandingCountsOnTheSections := by
  refine ⟨fun s f m i => ⟨s.loadDeckLanded_sectionAt m i, s.dischargeDeckLanded_sectionAt m i,
    s.setHatches_sectionAt f i .lifted, s.setHatches_sectionAt f i .fitted, rfl, rfl⟩,
    fun s f m => ⟨s.loadDeckHeld_iff m, s.tallyLowAt_some m, s.dischargeDeckLanded_alerts m⟩,
    fun s l load f a b => ?_⟩
  cases load <;> cases l <;> rfl

end Landings

end Sys2Proof.Machine

/-! PROOFS. Truck requests and the lane link (sections 8.3 to 8.6, 8.8). -/

namespace Sys2Proof.Machine

section Attempts

variable {s : State} {c : Slot} {f : Flight} {m : MoveRecord} {rest : List MoveRecord} {l : Lane}

/-! ### An attempt of a truck request (R142 to R146) -/

theorem State.attempt_calls (lift : s.flight c = some f) (pending : f.truck = .pending) (up : s.lanePort.linkUp = true)
    (records : s.flightRecords c f = m :: rest) (lane : s.chooseLane c (groupLaneMask (m :: rest)) = some l) :
    s.attempt c = s.makeCall c f m l := by
  simp [State.attempt, lift, pending, up, records, lane]

theorem State.attempt_quiet
    (quiet : s.flight c = none ∨ s.lanePort.linkUp = false ∨ ∃ f, s.flight c = some f ∧ f.truck ≠ .pending) :
    s.attempt c = s := by
  obtain same | ⟨f, -, -, -, lift, pending, up, -⟩ := s.attempt_cases c
  · exact same
  · rcases quiet with idle | down | ⟨g, held, other⟩
    · rw [idle] at lift; cases lift
    · rw [down] at up; cases up
    · rw [held] at lift
      cases lift
      exact absurd pending other

theorem lane_add_sub (a l : Lane) : a + (l - a) = l := by
  revert a l
  decide

/-- The first eligible lane from the one after the rotation pointer on (R143). -/
theorem State.chooseLane_first (mask : Mask) (eligible : s.eligible c mask l = true)
    (first : ∀ j : Fin 8, j < l - (s.pointer c + 1) → s.eligible c mask (s.pointer c + 1 + j) = false) :
    s.chooseLane c mask = some l := by
  have own : s.pointer c + 1 + (l - (s.pointer c + 1)) = l := lane_add_sub _ _
  rw [State.chooseLane, lanesAfter, List.find?_map, Option.map_eq_some_iff]
  refine ⟨l - (s.pointer c + 1), ?_, own⟩
  rw [find?_ascending (fun _ _ h => Nat.lt_asymm h) all8_ascending.1 _ (mem_all8 _)]
  exact ⟨by rw [Function.comp, own, eligible], fun j _ before => first j before⟩

theorem State.eligible_eq_false (records : s.flightRecords c f = m :: rest)
    (h : (s.geometry c).lanes.laneMask.getLsbD l.val = false ∨
      (∃ r ∈ s.flightRecords c f, r.laneMask.getLsbD l.val = false) ∨
      s.laneMask.getLsbD l.val = false ∨ s.stand c l ≠ .free) :
    s.eligible c (groupLaneMask (m :: rest)) l = false := by
  rw [← Bool.not_eq_true, s.eligible_iff (List.cons_ne_nil _ _)]
  rintro ⟨own, moves, opened, free⟩
  rcases h with h | ⟨r, hr, h⟩ | h | h
  · rw [own] at h; cases h
  · rw [moves r (records ▸ hr)] at h; cases h
  · rw [opened] at h; cases h
  · exact h free

/-- Settles O35: the first eligible lane from the pointer, and each condition that leaves none. -/
theorem truckIsCalledToAnEligibleLane : Obligations.TruckIsCalledToAnEligibleLane := by
  refine ⟨fun s c f m rest l lift pending up records => ?calls, fun s c quiet => State.attempt_quiet quiet,
    fun s c f lift none => ?noLane⟩
  case calls =>
    intro eligible here first reach trolley hoist lead due deadline call
    have iff : ∀ l, s.eligible c (groupLaneMask (m :: rest)) l = true ↔ eligible l :=
      s.eligible_iff (List.cons_ne_nil _ _) c
    refine (State.attempt_calls lift pending up records (State.chooseLane_first _ ((iff l).2 here) fun j before => ?_)).trans ?_
    · rw [← Bool.not_eq_true, iff]
      exact first j before
    · rfl
  case noLane =>
    obtain same | ⟨g, m, rest, l, held, -, -, records, chosen, -⟩ := s.attempt_cases c
    · exact same
    · rw [lift] at held
      cases held
      have eligible := s.chooseLane_eligible chosen
      rw [State.eligible_eq_false records (none l)] at eligible
      cases eligible

/-! ### Lapses (R149, R150) -/

theorem reached_iff (now deadline : Time) : reached now deadline = true ↔ (now - deadline).toNat < 2 ^ 31 := by
  rw [reached, decide_eq_true_iff, timeSince, BitVec.toInt_eq_toNat_cond]
  split <;> omega

theorem LostCause.alert_eq (cause : LostCause) : cause.alert = match cause with
    | .late => .truckLate
    | .gone => .truckGone := by
  cases cause <;> rfl

theorem State.lapse_again (cause : LostCause) (lift : s.flight c = some f)
    (more : f.recallCount + 1 ≤ s.config.maxRecalls) : s.lapse c l cause = (s.setFlight c (some { f with
      truck := .pending, lane := none, truckId := none, recallCount := min 7 (f.recallCount + 1) })).attempt c := by
  simp [State.lapse, lift, more]

theorem State.lapse_failed (cause : LostCause) (lift : s.flight c = some f)
    (none_ : s.config.maxRecalls < f.recallCount + 1) :
    s.lapse c l cause = s.failTruck c { f with recallCount := min 7 (f.recallCount + 1) } l cause := by
  simp [State.lapse, lift, Nat.not_le.2 none_]

theorem State.cancelStand_called {k : Call} {due deadline : Time} {held : Bool}
    (stand : s.stand c l = .called k due deadline held) :
    s.cancelStand c l = (s.setStand c l .free).send .lane (.cancel k.number c l) := by
  rw [State.cancelStand, stand]

/-- Settles O39: a lapse by its count, the deadline by whether it is reached. -/
theorem callLapses : Obligations.CallLapses := by
  refine ⟨fun s c l cause f lift => ⟨State.lapse_again cause lift, fun none_ => ?_⟩, fun s c l =>
    ⟨fun k due deadline held stand late => ?_, fun k due deadline held stand early => ?_, fun other => ?_⟩⟩
  · exact (State.lapse_failed cause lift none_).trans
      (congrArg (fun a => State.raise _ a _) (LostCause.alert_eq cause))
  · refine congrArg Host.Outcome.next ?_
    rw [stand]
    dsimp only
    rw [if_pos ((reached_iff _ _).2 late), State.cancelStand_called stand]
  · refine congrArg Host.Outcome.next ?_
    rw [stand]
    exact if_neg (mt (reached_iff _ _).1 (Nat.not_lt.2 early))
  · refine congrArg Host.Outcome.next ?_
    split
    · next stand => exact absurd (by rw [stand]; rfl) other
    all_goals rfl

end Attempts

/-! ### The lane link comes up (R157, R178) -/

section LaneLink

variable {s : State}

/-- The lane link hears: HUNT, link-up, the silence timer started (R178). -/
def State.LaneHears (s : State) : Prop :=
  s.lanePort.rx = .hunt ∧ s.lanePort.linkUp = true ∧ s.lanePort.silence = some s.config.linkSilence

theorem State.laneHears_heard (s : State) : (s.heard .lane).LaneHears := ⟨rfl, rfl, rfl⟩

theorem State.LaneHears.telegramIn (h : s.LaneHears) : s.telegramIn .lane = s := by
  obtain ⟨rx, up, silence⟩ := h
  rw [s.telegramIn_heard (p := .lane) (.inr up)]
  show ({ s with lanePort := { s.lanePort with rx := .hunt, linkUp := true, silence := some s.config.linkSilence } } : State)
    = s
  rw [← rx, ← up, ← silence]

/-- What keeps the lane link hearing: its outbox alone changes of the port, and the silence limit stands. -/
theorem State.LaneHears.of_outbox {t : State} (h : s.LaneHears) (config : t.config = s.config)
    (port : t.lanePort = { s.lanePort with outbox := t.lanePort.outbox }) : t.LaneHears := by
  rw [State.LaneHears, port, config]
  exact h

theorem State.send_lanePort (s : State) (t : Telegram) :
    (s.send .lane t).lanePort = { s.lanePort with outbox := (s.send .lane t).lanePort.outbox } := by
  unfold State.send
  split <;> rfl

theorem State.LaneHears.attempt (h : s.LaneHears) (c : Slot) : (s.attempt c).LaneHears := by
  refine h.of_outbox (State.attempt_config ..) ?_
  obtain same | ⟨f, m, rest, l, -, -, -, -, -, calls⟩ := s.attempt_cases c
  · rw [same]
  · rw [calls]
    exact State.send_lanePort ..

theorem State.LaneHears.attempts (cs : List Slot) (h : s.LaneHears) : (cs.foldl State.attempt s).LaneHears := by
  induction cs generalizing s with
  | nil => exact h
  | cons c rest ih => exact ih (h.attempt c)

/-- Telegrams sent one after another on a lane link that is up wait in that order. -/
theorem State.sendAll_lane (up : s.lanePort.linkUp = true) (ts : List Telegram) :
    ts.foldl (fun s t => s.send .lane t) s =
      s.setPort .lane { s.lanePort with outbox := s.lanePort.outbox ++ ts } := by
  induction ts generalizing s with
  | nil => simp [State.setPort]
  | cons t rest ih =>
    have sent : s.send .lane t = s.setPort .lane { s.lanePort with outbox := s.lanePort.outbox ++ [t] } := if_pos up
    rw [List.foldl_cons, sent]
    refine (ih (s := s.setPort .lane { s.lanePort with outbox := s.lanePort.outbox ++ [t] }) up).trans ?_
    simp [State.setPort]

theorem resyncNotice_eq (c : Slot) (l : Lane) (r : Stand) : resyncNotice c l r = match r with
    | .called k due _ held => [.call {
        number := k.number, slot := c, lane := l, railPosition := k.railPosition, due := due,
        direction := k.direction, size := k.size, saturated := held, tags := k.tags }]
    | .released number truck => [.depart number c l truck]
    | .free | .occupied _ _ => [] := by
  cases r <;> rfl

/-- A lane command depends on the state the link's hearing leaves. -/
theorem exec_lane_congr {t : State} {i : Instr} {q : RequestType} (named : telegramOf i = some (.lane, q))
    (same : s.telegramIn .lane = t.telegramIn .lane) : exec i s = exec i t := by
  have request : ∀ {α : Type} (b : Body α) (r : RequestType) (event : α → State → State × List Telegram),
      s.request .lane r b event = t.request .lane r b event := fun b r event => by
    unfold State.request
    rw [same]
  cases i with
  | lanes b => exact request b .lanes lanesEvent
  | arrive b => exact request b .arrive arriveEvent
  | gone b => exact request b .gone goneEvent
  | clear b => exact request b .clear clearEvent
  | _ => cases named

/-- Settles O34: a link that is up hears the telegram as it came; one that was down is brought up first. -/
theorem laneLinkComesUpFirst : Obligations.LaneLinkComesUpFirst := by
  intro s i q named down again up
  have notices : again = (s.heard .lane).resyncNotices := by
    unfold State.resyncNotices
    simp only [resyncNotice_eq, State.heard_stand]
    rfl
  have resynced : (s.heard .lane).laneLinkUp = all8.foldl State.attempt up := by
    rw [State.laneLinkUp, State.sendAll_lane rfl, ← notices]
    rfl
  have hears : up.LaneHears := ⟨rfl, rfl, rfl⟩
  refine exec_lane_congr named ?_
  rw [s.telegramIn_laneDown down, resynced, (hears.attempts all8).telegramIn]

end LaneLink

end Sys2Proof.Machine

/-! PROOFS. The lane controller's telegrams (sections 8.2, 8.5 to 8.7). -/

namespace Sys2Proof.Machine

section LaneRequests

variable {α : Type} {s u : State} {t : RequestType} {x : α} {event : α → State → State × List Telegram}

/-! ### A lane telegram answered (R179) -/

/-- A lane telegram on a link that is up: its event's reply stands behind what waited and before what the event sent. -/
theorem State.laneRequest_answer (up : s.lanePort.linkUp = true) {rs : List Telegram}
    (h : event x (s.heard .lane) = (u, rs)) :
    s.request .lane t (.fields x) event = .next (u.insertTelegrams .lane s.lanePort.outbox.length rs) := by
  rw [s.request_heard (p := .lane) t x event (.inr up), State.answer, h]
  rfl

theorem State.laneRequest_answered (up : s.lanePort.linkUp = true) {a : Telegram}
    (h : event x (s.heard .lane) = (u, [a])) (same : u.port .lane = (s.heard .lane).port .lane) :
    s.request .lane t (.fields x) event = .next (u.send .lane a) := by
  rw [s.request_heard (p := .lane) t x event (.inr up)]
  exact congrArg _ ((s.heard .lane).answer_one _ _ _ _ h same)

theorem State.laneRequest_refused (up : s.lanePort.linkUp = true) {q : RequestType} {r : Reason} {i : RefuseInfo}
    (h : event x (s.heard .lane) = refuse q r i (s.heard .lane)) :
    s.request .lane t (.fields x) event = .next ((s.heard .lane).send .lane (.refuse q r i)) :=
  State.laneRequest_answered up h rfl

end LaneRequests

section Lanes

variable {s : State} {c : Slot} {l : Lane}

/-! ### LANES (R141) -/

theorem State.mem_closedCalls : (c, l) ∈ s.closedCalls ↔ (s.stand c l).name = .called ∧ s.laneMask.getLsbD l.val = false := by
  simp [State.closedCalls, has]

theorem State.closedCalls_ascending (s : State) :
    s.closedCalls.Pairwise fun a b => a.1 < b.1 ∨ (a.1 = b.1 ∧ a.2 < b.2) := by
  rw [State.closedCalls, List.flatMap, List.pairwise_flatten, List.pairwise_map]
  refine ⟨fun row hrow => ?_, all8_ascending.1.imp fun {a b} before x hx y hy => .inl ?_⟩
  · obtain ⟨c, -, rfl⟩ := List.mem_map.1 hrow
    rw [List.pairwise_map]
    exact (all8_ascending.1.filter _).imp fun before => .inr ⟨rfl, before⟩
  · obtain ⟨_, -, rfl⟩ := List.mem_map.1 hx
    obtain ⟨_, -, rfl⟩ := List.mem_map.1 hy
    exact before

/-- A call in a closed lane cancelled, its group's truck PENDING again (R141). -/
theorem State.closeCall_eq (s : State) (x : Slot × Lane) : s.closeCall x =
    match s.stand x.1 x.2, s.flight x.1 with
    | .called k _ _ _, some f => ((s.setStand x.1 x.2 .free).send .lane (.cancel k.number x.1 x.2)).setFlight
        x.1 (some { f with truck := .pending, lane := none, truckId := none })
    | .called k _ _ _, none => (s.setStand x.1 x.2 .free).send .lane (.cancel k.number x.1 x.2)
    | _, some f => s.setFlight x.1 (some { f with truck := .pending, lane := none, truckId := none })
    | _, none => s := by
  unfold State.closeCall State.cancelStand
  cases s.stand x.1 x.2 <;> cases s.flight x.1 <;> rfl

theorem exec_lanes {mask : Mask} {close : State → Slot × Lane → State} (up : s.lanePort.linkUp = true)
    (closes : ∀ t x, State.closeCall t x = close t x) : exec (.lanes (.fields mask)) s =
      let opened : State := { s.heard .lane with laneMask := mask }
      .next ((all8.foldl State.attempt (opened.closedCalls.foldl close opened)).insertTelegrams .lane
        s.lanePort.outbox.length [.laneAck (.lanes mask opened.closedCalls.length)]) := by
  obtain rfl : State.closeCall = close := funext fun t => funext fun x => closes t x
  exact State.laneRequest_answer (t := .lanes) up rfl

/-- Settles O36: the calls closed in order, then the LANE_ACK put before what they send. -/
theorem lanesAreOpenedAndClosed : Obligations.LanesAreOpenedAndClosed := fun s mask up =>
  ⟨({ s.heard .lane with laneMask := mask } : State).closedCalls, fun _ _ => State.mem_closedCalls,
    State.closedCalls_ascending _, exec_lanes up State.closeCall_eq⟩

/-! ### Telegrams that name a stand (R140) -/

section Stands

variable {t : RequestType} {valid : Bool} {event : Slot → Lane → State → State × List Telegram}

theorem laneOf_val (l : Lane) : laneOf l.val = some l := dif_pos l.isLt

theorem laneOf_eq_none {n : Nat} (h : 8 ≤ n) : laneOf n = none := dif_neg (Nat.not_lt.mpr h)

theorem standRequest_valid (s : State) (c : Slot) (l : Lane) : standRequest t c.val l.val true event s = event c l s := by
  simp [standRequest, laneOf_val]

theorem standRequest_invalid (s : State) (c : Slot) (l : Lane) :
    standRequest t c.val l.val false event s = refuseAt t .badValue c l s := by
  simp [standRequest, laneOf_val]

theorem standRequest_outside (s : State) {slot lane : Nat} (out : 8 ≤ slot ∨ 8 ≤ lane) :
    standRequest t slot lane valid event s = refuse t .badValue .none s := by
  rcases out with out | out
  · simp [standRequest, slotOf_eq_none out]
  · unfold standRequest
    rw [laneOf_eq_none out]
    cases slotOf slot <;> rfl

end Stands

/-! ### ARRIVE (R147, R148) -/

/-- The truck that is called arrives: its group's truck is PRESENT and the crane is told (R147, R148). -/
theorem State.takeArrival_eq {k : Call} {truck : Nat} {f : Flight} (lift : s.flight c = some f) :
    s.takeArrival c l k truck = ((s.setStand c l (.occupied k truck)).setFlight c
      (some { f with truck := .present, truckId := some truck })).send (.crane c) (.standReady f.first l truck) := by
  simp [State.takeArrival, lift]

theorem arriveAt_called {call truck : Nat} {k : Call} {due deadline : Time} {held : Bool} {f : Flight}
    (called : s.stand c l = .called k due deadline held) (same : k.number = call) (lift : s.flight c = some f) :
    arriveAt call truck c l s = (((s.setStand c l (.occupied k truck)).setFlight c
      (some { f with truck := .present, truckId := some truck })).send (.crane c) (.standReady f.first l truck),
        [.laneAck (.arrived c l .occupied k.tags k.direction)]) := by
  simp [arriveAt, called, same, State.takeArrival_eq lift, Stand.name]

/-- Settles O37: by the state of the stand the telegram names. -/
theorem truckArrives : Obligations.TruckArrives := by
  intro s c l call truck up arrive refused
  have named : truck ≠ 0 → call ≠ 0 →
      arriveEvent { call := call, slot := c.val, lane := l.val, truck := truck } (s.heard .lane) =
        arriveAt call truck c l (s.heard .lane) := fun id number => by
    rw [arriveEvent, show (truck != 0 && call != 0) = true by simp [id, number]]
    exact standRequest_valid _ c l
  refine ⟨fun k due deadline held f id number called same lift => ?arrives,
    fun k due deadline held id number called other => ?stale, fun id number free => ?free,
    fun id number busy => ?busy, fun bad => ?bad, fun slot lane out => ?outside⟩
  case arrives =>
    exact State.laneRequest_answered (t := .arrive) up ((named id number).trans (arriveAt_called called same lift))
      (by rw [State.send_crane_only]; rfl)
  all_goals refine State.laneRequest_refused (t := .arrive) up ?_
  case stale =>
    rw [named id number]
    simp [arriveAt, called, other, refuseAt]
  case free =>
    rw [named id number]
    simp [arriveAt, free, refuseAt]
  case busy =>
    rw [named id number]
    cases stand : s.stand c l <;> simp [stand, Stand.name] at busy <;> simp [arriveAt, refuseAt, stand]
  case bad =>
    rw [arriveEvent, show (truck != 0 && call != 0) = false by rcases bad with bad | bad <;> simp [bad]]
    exact (standRequest_invalid _ c l).trans rfl
  case outside => exact standRequest_outside _ out

/-! ### GONE and CLEAR (R151, R155) -/

theorem goneEvent_named {truck : Nat} (id : truck ≠ 0) (s : State) (c : Slot) (l : Lane) :
    goneEvent { slot := c.val, lane := l.val, truck := truck } s = goneAt truck c l s := by
  rw [goneEvent, show (truck != 0) = true by simp [id]]
  exact standRequest_valid s c l

theorem goneAt_failed {k : Call} {truck : Nat} {f : Flight} (stand : s.stand c l = .occupied k truck)
    (lift : s.flight c = some f) (load : f.job.isLoad = true) (phase : f.phase = .locked) :
    goneAt truck c l s = ((s.setStand c l .free).failTruck c f l .gone, [.laneAck (.gone c l .free (some .failed))]) := by
  simp [goneAt, stand, State.truckLeft, lift, load, phase, State.failTruck, Stand.name]

theorem goneAt_lapsed {k : Call} {truck : Nat} {f : Flight} (stand : s.stand c l = .occupied k truck)
    (lift : s.flight c = some f) (other : ¬ (f.job.isLoad = true ∧ f.phase = .locked)) :
    goneAt truck c l s = ((s.setStand c l .free).lapse c l .gone,
      [.laneAck (.gone c l (((s.setStand c l .free).lapse c l .gone).stand c l).name
        ((((s.setStand c l .free).lapse c l .gone).flight c).map fun f => f.truck))]) := by
  have lapses : (f.job.isLoad && f.phase == .locked) = false := by simpa using other
  simp [goneAt, stand, State.truckLeft, lift, lapses]

theorem goneAt_released {number truck : Nat} (stand : s.stand c l = .released number truck) :
    goneAt truck c l s = ((s.setStand c l .free).attempt c,
      [.laneAck (.clear c l (((s.setStand c l .free).attempt c).stand c l).name)]) := by
  simp [goneAt, stand, State.clearStand]

theorem goneAt_refused {truck : Nat} (busy : ∀ k, s.stand c l ≠ .occupied k truck)
    (waiting : ∀ number, s.stand c l ≠ .released number truck) :
    goneAt truck c l s = refuse .gone .standState (.stand (s.stand c l).name) s := by
  unfold goneAt
  split
  · next k id stand =>
    have other : id ≠ truck := fun same => busy k (same ▸ stand)
    exact if_neg other
  · next number id stand =>
    have other : id ≠ truck := fun same => waiting number (same ▸ stand)
    exact if_neg other
  all_goals rfl

theorem clearAt_released {number truck : Nat} (stand : s.stand c l = .released number truck) :
    clearAt c l s = ((s.setStand c l .free).attempt c,
      [.laneAck (.clear c l (((s.setStand c l .free).attempt c).stand c l).name)]) := by
  simp [clearAt, stand, State.clearStand]

theorem clearAt_refused (other : ∀ number truck, s.stand c l ≠ .released number truck) :
    clearAt c l s = refuse .clear .standState (.stand (s.stand c l).name) s := by
  unfold clearAt
  split
  · next number truck stand => exact absurd stand (other number truck)
  all_goals rfl

/-- Settles O38: GONE and CLEAR by the state of the stand they name. -/
theorem truckLeavesAndStandIsCleared : Obligations.TruckLeavesAndStandIsCleared := by
  refine ⟨fun s c l truck up => ?gone, fun s c l up => ⟨fun number truck stand => ?cleared, fun other => ?uncleared,
    fun slot lane out => State.laneRequest_refused (t := .clear) up (standRequest_outside _ out)⟩⟩
  case gone =>
    intro gone freed refused
    refine ⟨fun k f id stand lift load phase => ?_, fun k f id stand lift other => ?_, fun number id stand => ?_,
      fun id busy waiting => ?_, fun none => ?_, fun slot lane out =>
        State.laneRequest_refused (t := .gone) up (standRequest_outside _ out)⟩
    · exact State.laneRequest_answered (t := .gone) up ((goneEvent_named id _ c l).trans (goneAt_failed stand lift load phase))
        (State.failTruck_lanePort ..)
    · exact State.laneRequest_answer (t := .gone) up ((goneEvent_named id _ c l).trans (goneAt_lapsed stand lift other))
    · exact State.laneRequest_answer (t := .gone) up ((goneEvent_named id _ c l).trans (goneAt_released stand))
    · exact State.laneRequest_refused (t := .gone) up ((goneEvent_named id _ c l).trans (goneAt_refused busy waiting))
    · refine State.laneRequest_refused (t := .gone) up ?_
      rw [goneEvent, show (truck != 0) = false by simp [none]]
      exact (standRequest_invalid _ c l).trans rfl
  case cleared =>
    exact State.laneRequest_answer (t := .clear) up ((standRequest_valid _ c l).trans (clearAt_released stand))
  case uncleared =>
    exact State.laneRequest_refused (t := .clear) up ((standRequest_valid _ c l).trans (clearAt_refused other))

end Lanes

end Sys2Proof.Machine

/-! PROOFS. Gangs at work: ENTER that passes its checks, UNITS and CHECK of a gang aboard, its check-in timer, and EXIT
(sections 5.3 to 5.6). -/

namespace Sys2Proof.Machine

/-! ### Boarding or waiting (R75, R86) -/

section Enter

variable {s : State} {g : GangId} {head i task : Nat} {t : Task} {r : Section}

theorem State.boardsAtOnce_iff (found : s.section? i = some r) : s.boardsAtOnce i = true ↔
    r.gang = none ∧ r.waiting = [] ∧
      ∀ j q, s.section? j = some q → distance i j ≤ s.config.exclusionRadius → q.claim = none := by
  simp [State.boardsAtOnce, found, ← State.claimNear_eq_false, and_assoc]

theorem State.joinWaiting_waitingCount (found : s.section? i = some r) :
    (s.joinWaiting g head i t).waitingCount i = r.waiting.length + 1 := by
  simp [State.waitingCount, State.joinWaiting, State.setGang_sectionAt, State.sectionAt_changeSection, found]

/-- An ENTER past its checks: only the Section Table's decision is left (R85, R86). -/
theorem enterEvent_passed (mode : s.mode = .operating) (ashore : s.gang g = .ashore head) (known : taskOf task = some t)
    (berth : s.vessel ≠ none) (low : 1 ≤ i) (high : i ≤ s.sectionCount) (found : s.section? i = some r) :
    enterEvent { gang := g.val, section_ := i, task := task } s =
      if s.boardsAtOnce i then (s.board g head i t, [.gangAck (.granted g i)])
      else (s.joinWaiting g head i t, [.gangAck (.waiting g i (r.waiting.length + 1))]) := by
  have inRange : ¬ (i = 0 ∨ s.sectionCount < i) := by omega
  simp [enterEvent, enterGang, mode, ashore, known, berth, inRange, State.joinWaiting_waitingCount found]

end Enter

/-- Settles O42: past R85's checks the answer turns on whether the section boards at once (R75). -/
theorem gangEntersOrWaits : Obligations.GangEntersOrWaits := by
  intro s g head i task t r mode ashore hasTask berth low high found
  have known : taskOf task = some t := by
    obtain ⟨rfl, rfl⟩ | ⟨rfl, rfl⟩ := hasTask
    · rfl
    · rfl
  have taken := enterEvent_passed (s := s.heard .gang) (g := g) (by simpa using mode) (by simpa using ashore) known
    (by simpa using berth) low (by simpa using high) (by simpa using found)
  have boards := State.boardsAtOnce_iff (s := s.heard .gang) (by simpa using found)
  refine ⟨fun free => ?boarded, fun crowded => ?waits⟩
  case boarded =>
    rw [if_pos (boards.mpr (by simpa using free))] at taken
    exact State.gangPort_answered (t := .enter) taken (by simp)
  case waits =>
    rw [if_neg fun atOnce => crowded (by simpa using boards.mp atOnce)] at taken
    exact State.gangPort_answered (t := .enter) taken (by simp)

/-! ### Units and checks (R67, R88, R89) -/

section Aboard

variable {s : State} {g : GangId} {head i n : Nat} {task : Task} {last : Time} {overdue : Bool} {r : Section}

theorem State.counter_of_found (found : s.section? i = some r) : s.counter i task = r.counter task := by
  simp [State.counter, found]

theorem State.countUnits_within (found : s.section? i = some r) (enough : n ≤ r.counter task) :
    s.countUnits g i task n = s.changeSection i fun q => q.setCounter task (q.counter task - n) := by
  simp [State.countUnits, State.counter_of_found found, countDown, Nat.not_lt.mpr enough]

theorem State.countUnits_overrun (found : s.section? i = some r) (short : r.counter task < n) :
    s.countUnits g i task n =
      (s.changeSection i fun q => q.setCounter task (q.counter task - n)).raise .countOverrun (.gang g i s.clock) := by
  simp [State.countUnits, State.counter_of_found found, countDown, short]

theorem unitsEvent_counted (aboard : s.gang g = .aboard head i task last overdue) (found : s.section? i = some r)
    (some_ : 1 ≤ n) (most : n ≤ 63) :
    unitsEvent { gang := g.val, units := n } s = (s.countUnits g i task n,
      [.gangAck (.ok g false (decide (0 < r.counter task ∧ r.counter task ≤ n)) (decide (r.counter task < n)))]) := by
  have inRange : ¬ (n = 0 ∨ 63 < n) := by omega
  simp [unitsEvent, unitsOf, aboard, inRange, State.counter_of_found found]

theorem unitsEvent_badValue (aboard : s.gang g = .aboard head i task last overdue) (out : n = 0 ∨ 63 < n) :
    unitsEvent { gang := g.val, units := n } s = refuse .units .badValue .none s := by
  simp [unitsEvent, unitsOf, aboard, out]

/-- UNITS that the counter of the gang's task holds (R67, R88). -/
theorem exec_units_within {counted : Section → Section} (aboard : s.gang g = .aboard head i task last overdue)
    (found : s.section? i = some r) (some_ : 1 ≤ n) (most : n ≤ 63) (enough : n ≤ r.counter task)
    (hcounted : ∀ q, q.setCounter task (q.counter task - n) = counted q) :
    exec (.units (.fields { gang := g.val, units := n })) s =
      .next (((s.heard .gang).changeSection i counted).send .gang
        (.gangAck (.ok g false (decide (r.counter task = n)) false))) := by
  have foundHeard : (s.heard .gang).section? i = some r := by simpa using found
  have done : decide (0 < r.counter task ∧ r.counter task ≤ n) = decide (r.counter task = n) :=
    decide_eq_decide.mpr (by omega)
  have taken := unitsEvent_counted (s := s.heard .gang) (by simpa using aboard) foundHeard some_ most
  rw [State.countUnits_within foundHeard enough, done, decide_eq_false (Nat.not_lt.mpr enough), funext hcounted] at taken
  exact State.gangPort_answered (t := .units) taken (by simp)

/-- UNITS above what is left on the counter (R67, R88). -/
theorem exec_units_overrun {counted : Section → Section} (aboard : s.gang g = .aboard head i task last overdue)
    (found : s.section? i = some r) (some_ : 1 ≤ n) (most : n ≤ 63) (short : r.counter task < n)
    (hcounted : ∀ q, q.setCounter task (q.counter task - n) = counted q) :
    exec (.units (.fields { gang := g.val, units := n })) s =
      .next ((((s.heard .gang).changeSection i counted).raise .countOverrun (.gang g i s.clock)).send .gang
        (.gangAck (.ok g false (decide (0 < r.counter task)) true))) := by
  have foundHeard : (s.heard .gang).section? i = some r := by simpa using found
  have done : decide (0 < r.counter task ∧ r.counter task ≤ n) = decide (0 < r.counter task) :=
    decide_eq_decide.mpr (by omega)
  have taken := unitsEvent_counted (s := s.heard .gang) (by simpa using aboard) foundHeard some_ most
  rw [State.countUnits_overrun foundHeard short, done, decide_eq_true short, State.heard_clock, funext hcounted] at taken
  exact State.gangPort_answered (t := .units) taken (by simp)

theorem checkEvent_taken (aboard : s.gang g = .aboard head i task last overdue) :
    checkEvent g.val s = (s.setGang g (.aboard head i task s.clock false), [gangOk g]) := by
  simp [checkEvent, checkGang, aboard]

/-! ### The check-in timer (R92, R93) -/

theorem State.checkLapsed_iff (aboard : s.gang g = .aboard head i task last overdue) : s.checkLapsed g = true ↔
    overdue = false ∧ (s.config.checkInterval : Int) < (s.clock - last).toInt := by
  cases overdue <;> simp [State.checkLapsed, aboard, timeSince]

theorem State.superviseGang_lapsed (aboard : s.gang g = .aboard head i task last overdue)
    (lapsed : s.checkLapsed g = true) : s.superviseGang g =
      ((s.setGang g (.aboard head i task last true)).raise .gangOverdue (.gang g i s.clock)).send .gang
        (.overdue g i task head last) := by
  rw [State.superviseGang, if_pos lapsed]
  simp [State.becomeOverdue, aboard]

theorem State.superviseGang_running (running : ¬ s.checkLapsed g = true) : s.superviseGang g = s := if_neg running

end Aboard

/-- Settles O44: UNITS on either counter, held or overrun; CHECK; and the timer by whether it has lapsed. -/
theorem gangWorksAboard : Obligations.GangWorksAboard := by
  refine ⟨fun s g head i n task last overdue r aboard found => ⟨fun some_ most enough => ?within,
    fun some_ most short => ?overrun, fun out => ?badUnits⟩,
    fun s g head i task last overdue aboard => ⟨?check, fun fresh late => ?lapsed, fun running => ?running⟩⟩
  case within =>
    cases task with
    | unlash => exact exec_units_within aboard found some_ most (show n ≤ r.counter .unlash from enough) fun _ => rfl
    | lash => exact exec_units_within aboard found some_ most (show n ≤ r.counter .lash from enough) fun _ => rfl
  case overrun =>
    cases task with
    | unlash => exact exec_units_overrun aboard found some_ most (show r.counter .unlash < n from short) fun _ => rfl
    | lash => exact exec_units_overrun aboard found some_ most (show r.counter .lash < n from short) fun _ => rfl
  case badUnits => exact State.gangPort_refused (unitsEvent_badValue (by simpa using aboard) out)
  case check =>
    have taken := checkEvent_taken (s := s.heard .gang) (by simpa using aboard)
    rw [State.heard_clock] at taken
    exact State.gangPort_answered (t := .check) taken (by simp)
  case lapsed =>
    exact congrArg _ (State.superviseGang_lapsed aboard ((State.checkLapsed_iff aboard).mpr ⟨fresh, late⟩))
  case running =>
    refine congrArg _ (State.superviseGang_running fun lapsed => ?_)
    obtain ⟨fresh, late⟩ := (State.checkLapsed_iff aboard).mp lapsed
    rcases running with over_ | early
    · exact Bool.noConfusion (fresh.symm.trans over_)
    · omega

/-! ### Leaving a section (R77, R90, R91) -/

section Exit

variable {s u : State} {g : GangId} {head i : Nat} {task : Task} {last : Time} {overdue : Bool}

/-- A gang telegram on any link: its event's reply stands behind what waited and before what the event sent (R179). -/
theorem State.gangRequest_answer {α : Type} {t : RequestType} {x : α} {event : α → State → State × List Telegram}
    {rs : List Telegram} (h : event x (s.heard .gang) = (u, rs)) :
    s.request .gang t (.fields x) event = .next (u.insertTelegrams .gang s.gangPort.outbox.length rs) := by
  rw [s.request_heard (p := .gang) t x event (.inl (by simp)), State.answer, h]
  rfl

theorem exitEvent_aboard (aboard : s.gang g = .aboard head i task last overdue) :
    exitEvent g.val s = (s.exitAboard g head i, [gangOk g]) := by
  simp [exitEvent, exitGang, aboard]

theorem exitEvent_waiting (waits : s.gang g = .waiting head i task) :
    exitEvent g.val s = (s.exitWaiting g head i, [gangOk g]) := by
  simp [exitEvent, exitGang, waits]

theorem State.isHead_iff : s.isHead g i = true ↔ ((s.section? i).bind fun r => r.waiting.head?) = some g := by
  rw [State.isHead]
  cases s.section? i <;> simp

/-- The exit of a waiting gang, by whether it heads its list (R91). -/
theorem State.exitWaiting_eq :
    let left := s.changeSection i fun r => { r with waiting := r.waiting.filter fun h => decide (h ≠ g) }
    s.exitWaiting g head i = (if ((s.section? i).bind fun r => r.waiting.head?) = some g then left.consider i
      else left).setGang g (.ashore head) := by
  intro left
  simp only [State.exitWaiting, State.isHead_iff]
  rfl

end Exit

/-- Settles O45: the exit from either state, its GANG_ACK before the GRANT it can bring. -/
theorem gangLeavesItsSection : Obligations.GangLeavesItsSection := by
  refine fun s g head i task => ⟨fun last overdue aboard => ?aboard, fun waits => ?waiting⟩
  case aboard =>
    exact State.gangRequest_answer (t := .exit) (exitEvent_aboard (s := s.heard .gang) (by simpa using aboard))
  case waiting =>
    have left := State.gangRequest_answer (t := .exit) (event := exitEvent)
      (exitEvent_waiting (s := s.heard .gang) (by simpa using waits))
    rw [State.exitWaiting_eq, State.heard_sectionAt] at left
    exact left

end Sys2Proof.Machine

/-! PROOFS. The items of a CONFIG, one by one, and the failure that refuses a list (section 10.4). -/

namespace Sys2Proof.Machine

/-! ### The items of Tables 10.2 and 10.3 -/

theorem configSetupOnly_iff (i : ConfigItem) : configSetupOnly i = true ↔ match i with
    | .fitted _ | .park _ _ | .westLimit _ | .eastLimit _ | .clearance _ | .startMargin _ | .nearDistance _
    | .hysteresis _ | .creepSpeed _ | .bayTolerance _ | .arriveTolerance _ | .exclusionRadius _ | .reportLimit _
    | .linkSilence _ | .joinTimer _ | .sensorMode _ _ | .haltPolarity _ | .permitDrive _ => True
    | .grace _ | .maxRecalls _ | .checkInterval _ | .takeMode _ _ | .lookahead _ | .alertMask _ | .unknown _ => False := by
  cases i <;> simp [configSetupOnly]

theorem configNamed_iff (i : ConfigItem) : configNamed i = true ↔ match i with
    | .unknown _ => False
    | .park c _ | .takeMode c _ => c < 8
    | .sensorMode k _ => k < 7
    | _ => True := by
  cases i <;> simp [configNamed]

theorem configInRange_joinTimer (v : Nat) :
    configInRange (.joinTimer v) = true ↔ v = 50 ∨ v = 200 ∨ v = 500 ∨ v = 1000 := by
  simp [configInRange, or_assoc]

/-! ### Storing an item (R171) -/

theorem putAt_val {α : Type} {n : Nat} (v : Vector α n) (k : Fin n) (x : α) : putAt v k.val x = put v k x := dif_pos k.isLt

theorem entry_putAt_val {α : Type} {n : Nat} (v : Vector α n) (k j : Fin n) (x : α) :
    entry (putAt v k.val x) j = if j = k then x else entry v j := by
  rw [putAt_val, entry_put]

theorem lineOf_val (k : LineNo) : lineOf k.val = some k := dif_pos k.isLt

/-- What the PLAN_ACK shows of an item just stored is that item (R171). -/
theorem configStored_configStore {cfg : ConfigSet} {i : ConfigItem} (good : configInRange i = true)
    (named : configNamed i = true) : configStored (configStore cfg i) i = i := by
  cases i with
  | fitted v =>
    have held : v < 256 := by have := within_iff.mp good; omega
    simpa [configStore, configStored] using held
  | alertMask v =>
    have held : v < 4096 := by have := within_iff.mp good; omega
    simpa [configStore, configStored] using held
  | park c v =>
    obtain ⟨k, rfl⟩ : ∃ k : Slot, k.val = c := ⟨⟨c, (configNamed_iff _).mp named⟩, rfl⟩
    simp [configStore, configStored, entry_putAt_val]
  | takeMode c m =>
    obtain ⟨k, rfl⟩ : ∃ k : Slot, k.val = c := ⟨⟨c, (configNamed_iff _).mp named⟩, rfl⟩
    obtain ⟨x, rfl⟩ := Option.isSome_iff_exists.mp good
    simp [configStore, configStored, entry_putAt_val]
  | sensorMode l m =>
    obtain ⟨k, rfl⟩ : ∃ k : LineNo, k.val = l := ⟨⟨l, (configNamed_iff _).mp named⟩, rfl⟩
    obtain ⟨x, rfl⟩ := Option.isSome_iff_exists.mp good
    simp [configStore, configStored, lineOf_val, entry_putAt_val]
  | haltPolarity p =>
    obtain ⟨x, rfl⟩ := Option.isSome_iff_exists.mp good
    rfl
  | permitDrive d =>
    obtain ⟨x, rfl⟩ := Option.isSome_iff_exists.mp good
    rfl
  | unknown _ => exact absurd named (by simp [configNamed])
  | _ => rfl

/-! ### The first failure of a list (R171) -/

section Refusals

variable {mode : PartMode} {before behind items : List ConfigItem} {i : ConfigItem} {s : State}

theorem find?_first {α : Type} {p : α → Bool} {before behind : List α} {i : α} (passed : ∀ x ∈ before, p x = false)
    (failed : p i = true) : (before ++ i :: behind).find? p = some i := by
  refine List.find?_eq_some_iff_append.mpr ⟨failed, before, behind, rfl, fun x hx => ?_⟩
  rw [passed x hx, Bool.not_false]

theorem configRefusal_length (h : items.length = 0 ∨ 32 < items.length) :
    configRefusal mode items = some (.badValue, .none) := if_pos h

theorem configRefusal_name (some_ : 1 ≤ items.length) (most : items.length ≤ 32) (list : items = before ++ i :: behind)
    (passed : ∀ x ∈ before, configNamed x = true) (failed : configNamed i = false) :
    configRefusal mode items = some (.badValue, .item i) := by
  have bad : items.find? (fun i => !configNamed i) = some i :=
    list ▸ find?_first (fun x hx => by simp [passed x hx]) (by simp [failed])
  rw [configRefusal, if_neg (by omega), bad]

theorem find?_configNamed (named : ∀ x ∈ items, configNamed x = true) : items.find? (fun i => !configNamed i) = none :=
  List.find?_eq_none.mpr fun x hx => by simp [named x hx]

theorem configRefusal_mode (some_ : 1 ≤ items.length) (most : items.length ≤ 32) (list : items = before ++ i :: behind)
    (named : ∀ x ∈ items, configNamed x = true) (operating : mode = .operating)
    (passed : ∀ x ∈ before, configSetupOnly x = false) (failed : configSetupOnly i = true) :
    configRefusal mode items = some (.notInSetup, .item i) := by
  have bad : items.find? (fun i => mode == .operating && configSetupOnly i) = some i :=
    list ▸ find?_first (fun x hx => by simp [passed x hx]) (by simp [failed, operating])
  rw [configRefusal, if_neg (by omega), find?_configNamed named, bad]

theorem configRefusal_value (some_ : 1 ≤ items.length) (most : items.length ≤ 32) (list : items = before ++ i :: behind)
    (named : ∀ x ∈ items, configNamed x = true)
    (settable : mode = .setup ∨ ∀ x ∈ items, configSetupOnly x = false)
    (passed : ∀ x ∈ before, configInRange x = true) (failed : configInRange i = false) :
    configRefusal mode items = some (.badValue, .item i) := by
  have allowed : items.find? (fun i => mode == .operating && configSetupOnly i) = none :=
    List.find?_eq_none.mpr fun x hx => by
      rcases settable with setup | free
      · simp [setup]
      · simp [free x hx]
  have bad : items.find? (fun i => !configInRange i) = some i :=
    list ▸ find?_first (fun x hx => by simp [passed x hx]) (by simp [failed])
  rw [configRefusal, if_neg (by omega), find?_configNamed named, allowed, bad]

/-- A CONFIG refused, as its first failure says. -/
theorem exec_config_refused {r : Reason} {info : RefuseInfo} (h : configRefusal s.mode items = some (r, info)) :
    exec (.config (.fields items)) s = .next ((s.heard .plan).send .plan (.refuse .config r info)) := by
  have refused : configEvent items (s.heard .plan) = refuse .config r info (s.heard .plan) := by
    rw [configEvent, State.heard_mode, h]
  exact State.planRequest_refused refused

end Refusals

/-- Settles O53: the tables item by item, each item as it is stored, and the checks of R171 in their order. -/
theorem configIsCheckedItemByItem : Obligations.ConfigIsCheckedItemByItem := by
  refine ⟨?tables, ⟨?plain, fun _ _ => rfl, fun _ _ => rfl, fun cfg c v => ?park, fun cfg k m => ?line, fun cfg c m => ?take,
    fun cfg i good named => configStored_configStore good named⟩, ?refusals⟩
  case tables =>
    have range : ∀ lo hi v, within lo hi v = true ↔ lo ≤ v ∧ v ≤ hi := fun _ _ _ => within_iff
    have present : ∀ {α : Type} (v : Option α), v.isSome = true ↔ v ≠ none := fun _ => Option.isSome_iff_ne_none
    exact ⟨range _ _, fun _ => range _ _, range _ _, range _ _, range _ _, range _ _, range _ _, range _ _, range _ _,
      range _ _, range _ _, range _ _, range _ _, range _ _, configInRange_joinTimer, fun _ => present, present, present,
      range _ _, range _ _, range _ _, fun _ => present, range _ _, range _ _, configSetupOnly_iff, configNamed_iff⟩
  case plain =>
    exact fun _ _ => ⟨rfl, rfl, rfl, rfl, rfl, rfl, rfl, rfl, rfl, rfl, rfl, rfl, rfl, rfl, rfl, rfl, rfl, rfl, rfl⟩
  case park => exact ⟨_, rfl, fun d => entry_putAt_val _ c d v⟩
  case line => exact ⟨_, rfl, fun j => entry_putAt_val _ k j m⟩
  case take => exact ⟨_, rfl, fun d => entry_putAt_val _ c d m⟩
  case refusals =>
    refine fun s items => ⟨fun length => ?length, fun some_ most before i behind list =>
      ⟨fun passed failed => ?name, fun named => ⟨fun mode passed failed => ?mode, fun settable passed failed => ?value⟩⟩⟩
    case length => exact exec_config_refused (configRefusal_length length)
    case name => exact exec_config_refused (configRefusal_name some_ most list passed failed)
    case mode => exact exec_config_refused (configRefusal_mode some_ most list named mode passed failed)
    case value => exact exec_config_refused (configRefusal_value some_ most list named settable passed failed)

end Sys2Proof.Machine

/-! PROOFS. The part modes: SETUP, and OPERATE with its checks (sections 10.2 and 10.3). -/

namespace Sys2Proof.Machine

/-! ### The head of a filtered list -/

/-- The first to pass in an ascending list heads what passes. -/
theorem filter_eq_cons_of_first {n : Nat} {l : List (Fin n)} {p : Fin n → Bool} {c : Fin n} (ascending : l.Pairwise (· < ·))
    (member : c ∈ l) (hc : p c = true) (first : ∀ d, d < c → p d = false) : ∃ rest, l.filter p = c :: rest := by
  induction l with
  | nil => cases member
  | cons x xs ih =>
    obtain ⟨above, ascends⟩ := List.pairwise_cons.mp ascending
    rcases List.mem_cons.mp member with rfl | later
    · exact ⟨xs.filter p, List.filter_cons_of_pos hc⟩
    · rw [List.filter_cons_of_neg (by simp [first x (above c later)])]
      exact ih ascends later

theorem all7_ascending : all7.Pairwise (· < ·) := by decide

/-! ### The checks of an OPERATE (R170) -/

/-- Check 2 of R170 at a slot: nothing of an unfitted one, else within the limits and above the fitted slot before it. -/
def State.ParkGood (s : State) (c : Slot) : Prop :=
  s.fitted c = true → s.config.westLimit ≤ entry s.config.park c ∧ entry s.config.park c ≤ s.config.eastLimit ∧
    ∀ b, s.nearestWest c b → entry s.config.park b < entry s.config.park c

/-- Check 3 of R170 at a line. -/
def State.LineGood (s : State) (k : LineNo) : Prop :=
  entry s.config.sensorModes k = .disabled ∨ s.fitted (lineWest k) = true ∧ s.fitted (lineEast k) = true

section Operate

variable {s : State} {c : Slot} {k : LineNo}

/-- The slot's own check, as the list of bad park positions makes it. -/
def State.parkBad (s : State) (c : Slot) : Bool :=
  s.config.isFitted c && !(decide (s.config.westLimit ≤ entry s.config.park c ∧ entry s.config.park c ≤ s.config.eastLimit) &&
    (match s.config.westNeighbour c with
      | some b => decide (entry s.config.park b < entry s.config.park c)
      | none => true))

theorem State.parkBad_eq_false : s.parkBad c = false ↔ s.ParkGood c := by
  have hw : s.config.westNeighbour c = s.west c := rfl
  unfold State.parkBad State.ParkGood
  simp only [← State.west_eq_some, hw]
  cases fitted : s.fitted c with
  | false => simp [show s.config.isFitted c = false from fitted]
  | true => cases west : s.west c <;> simp [show s.config.isFitted c = true from fitted, and_assoc]

theorem State.lineBad_eq_false :
    (entry s.config.sensorModes k != .disabled && !s.config.serves k) = false ↔ s.LineGood k := by
  unfold State.LineGood ConfigSet.serves State.fitted
  by_cases off : entry s.config.sensorModes k = .disabled <;> simp [off]

theorem State.badParks_eq (s : State) : s.config.badParks = all8.filter s.parkBad := rfl

theorem State.badParks_nil (good : ∀ c, s.ParkGood c) : s.config.badParks = [] := by
  rw [State.badParks_eq]
  exact List.filter_eq_nil_iff.mpr fun c _ => by simp [State.parkBad_eq_false.mpr (good c)]

theorem State.badLines_nil (good : ∀ k, s.LineGood k) : s.config.badLines = [] :=
  List.filter_eq_nil_iff.mpr fun k _ => by simpa using State.lineBad_eq_false.mpr (good k)

theorem State.operateFault_none (limits : s.config.westLimit < s.config.eastLimit) (parks : ∀ c, s.ParkGood c)
    (lines : ∀ k, s.LineGood k) : s.config.operateFault = none := by
  rw [ConfigSet.operateFault, if_neg (Nat.not_le.mpr limits), State.badParks_nil parks, State.badLines_nil lines]

theorem State.operateFault_limits (bad : ¬ s.config.westLimit < s.config.eastLimit) :
    s.config.operateFault = some .limits := if_pos (Nat.not_lt.mp bad)

/-- The lowest slot whose park position is bad is the one named. -/
theorem State.operateFault_park (limits : s.config.westLimit < s.config.eastLimit) (bad : ¬ s.ParkGood c)
    (below : ∀ d, d < c → s.ParkGood d) : s.config.operateFault = some (.park c) := by
  have isBad : s.parkBad c = true := by
    rw [← State.parkBad_eq_false] at bad
    simpa using bad
  obtain ⟨rest, badParks⟩ := filter_eq_cons_of_first all8_ascending.1 (mem_all8 c) isBad
    fun d hd => State.parkBad_eq_false.mpr (below d hd)
  rw [ConfigSet.operateFault, if_neg (Nat.not_le.mpr limits), State.badParks_eq, badParks]

/-- With every park position good, the lowest bad line is the one named. -/
theorem State.operateFault_line (limits : s.config.westLimit < s.config.eastLimit) (parks : ∀ c, s.ParkGood c)
    (bad : ¬ s.LineGood k) (below : ∀ j, j < k → s.LineGood j) : s.config.operateFault = some (.line k) := by
  have isBad : (entry s.config.sensorModes k != .disabled && !s.config.serves k) = true := by
    rw [← State.lineBad_eq_false] at bad
    simpa using bad
  obtain ⟨rest, badLines⟩ := filter_eq_cons_of_first
    (p := fun k => entry s.config.sensorModes k != .disabled && !s.config.serves k) all7_ascending (mem_all7 k) isBad
    fun j hj => State.lineBad_eq_false.mpr (below j hj)
  have listed : s.config.badLines = k :: rest := badLines
  rw [ConfigSet.operateFault, if_neg (Nat.not_le.mpr limits), State.badParks_nil parks, listed]

end Operate

/-! ### What the two events answer (R169, R170) -/

section Modes

variable {s : State} {f : OperateFault}

theorem State.busy_iff : (s.anyFlight || s.anyGang) = true ↔
    (∃ c f, s.flight c = some f) ∨ ∃ g, (s.gang g).onVessel = true := by
  simp [State.anyFlight, State.anyGang, Option.isSome_iff_exists]

theorem setupEvent_again (mode : s.mode = .setup) : setupEvent () s = planAck (.mode .setup) s := if_pos mode

theorem setupEvent_busy (mode : s.mode = .operating) (busy : (s.anyFlight || s.anyGang) = true) :
    setupEvent () s = refuse .setup .busy .none s := by
  rw [setupEvent, if_neg (by simp [mode]), if_pos busy]

theorem setupEvent_entered (mode : s.mode = .operating) (idle : ¬ (s.anyFlight || s.anyGang) = true) :
    setupEvent () s = planAck (.mode .setup) s.enterSetup := by
  rw [setupEvent, if_neg (by simp [mode]), if_neg idle]

theorem operateEvent_again (mode : s.mode = .operating) : operateEvent () s = planAck (.mode .operating) s := if_pos mode

theorem operateEvent_entered (mode : s.mode = .setup) (good : s.config.operateFault = none) :
    operateEvent () s = planAck (.mode .operating) s.enterOperating := by
  rw [operateEvent, if_neg (by simp [mode]), good]

theorem exec_operate_refused (mode : s.mode = .setup) (bad : s.config.operateFault = some f) :
    exec (.operate (.fields ())) s =
      .next ((s.heard .plan).send .plan (.refuse .operate .badValue (.operate f))) := by
  have refused : operateEvent () (s.heard .plan) = refuse .operate .badValue (.operate f) (s.heard .plan) := by
    rw [operateEvent, if_neg (by simp [mode]), State.heard_config, bad]
  exact State.planRequest_refused refused

/-- The span records as SETUP leaves them before its re-evaluation: no goal, no empty mark (R169). -/
def State.clearedSpan (s : State) : Vector SpanRecord 8 :=
  table8 fun c => { s.spanOf c with goal := none, emptyMark := false }

theorem State.heard_enterSetup (s : State) : (s.heard .plan).enterSetup =
    ({ s.heard .plan with mode := .setup, span := s.clearedSpan } : State).reevaluate (all8.filter s.fitted) := rfl

theorem State.heard_enterOperating (s : State) : (s.heard .plan).enterOperating =
    ({ s.heard .plan with mode := .operating } : State).reevaluate (all8.filter s.fitted) := rfl

end Modes

/-- Settles O51: SETUP by mode and by what is in flight or on the vessel, OPERATE by mode and by the first fault. -/
theorem modesChange : Obligations.ModesChange := by
  refine fun s => ⟨fun mode => ?setupAgain, fun mode busy => ?setupBusy, fun mode idle => ?setup,
    fun mode => ?operateAgain, fun mode limits parks lines => ?operate, fun mode bad => ?limits,
    fun c mode limits bad below => ?park, fun k mode limits parks bad below => ?line⟩
  case setupAgain =>
    exact State.planRequest_acked (t := .setup) (setupEvent_again (s := s.heard .plan) (by simpa using mode)) rfl
  case setupBusy =>
    exact State.planRequest_refused
      (setupEvent_busy (s := s.heard .plan) (by simpa using mode) (State.busy_iff.mpr busy))
  case setup =>
    refine ⟨s.clearedSpan, fun c => entry_table8 _ c, ?_⟩
    have entered := State.planRequest_acked (t := .setup) (setupEvent_entered (s := s.heard .plan) (by simpa using mode)
      fun busy => idle (State.busy_iff.mp (by simpa using busy))) (State.reevaluate_port _ _ _)
    rwa [State.heard_enterSetup] at entered
  case operateAgain =>
    exact State.planRequest_acked (t := .operate) (operateEvent_again (s := s.heard .plan) (by simpa using mode)) rfl
  case operate =>
    have entered := State.planRequest_acked (t := .operate) (operateEvent_entered (s := s.heard .plan)
      (by simpa using mode) (by simpa using State.operateFault_none limits parks lines))
      (State.reevaluate_port _ _ _)
    rwa [State.heard_enterOperating] at entered
  case limits => exact exec_operate_refused mode (State.operateFault_limits bad)
  case park => exact exec_operate_refused mode (State.operateFault_park limits bad below)
  case line => exact exec_operate_refused mode (State.operateFault_line limits parks bad below)

end Sys2Proof.Machine

/-! PROOFS. Requests turned away whatever the state: malformed bodies, unfitted slots, absent cranes and other groups' tags
(sections 1.4, 2.2, 7.4 and 11.3). -/

namespace Sys2Proof.Machine

/-- The command of a malformed body is a request whose event is never asked. -/
theorem exec_malformedOn {p : PortId} {q : RequestType} {page : Nat} {i : Instr} (h : malformedOn p q page = some i)
    (notJoin : q ≠ .join) (s : State) :
    exec i s = s.request p q (.malformed : Body Unit) fun _ => refuse q .badValue .none := by
  unfold malformedOn at h
  split at h
  case h_1 => exact absurd rfl notJoin
  case h_40 => cases h
  all_goals
    cases h
    rfl

/-- A malformed body of any request but JOIN, on a link that hears it (R177). -/
theorem exec_malformed {s : State} {p : PortId} {q : RequestType} {page : Nat} {i : Instr}
    (h : malformedOn p q page = some i) (notJoin : q ≠ .join) (link : p ≠ .lane ∨ s.lanePort.linkUp = true) :
    exec i s = .next ((s.heard p).send p (.refuse q .badValue .none)) := by
  have hears : p ≠ .lane ∨ (s.port p).linkUp = true := by
    cases p with
    | lane => exact link
    | _ => exact .inl (by simp)
  rw [exec_malformedOn h notJoin, s.request_malformed _ _ hears]

section Reports

variable {s : State} {c : Slot} {t : RequestType} {tag : Nat} {about : Flight → State → State × List Telegram}

/-- A report about a group by a crane that is DOWN or JOINING (R125). -/
theorem State.aboutFlight_absent (absent : (s.crane c).slotState = .down ∨ (s.crane c).slotState.isJoining = true) :
    s.aboutFlight c t tag about = refuse t .notActive .none s := by
  unfold State.aboutFlight
  cases state : (s.crane c).slotState with
  | down | joining _ => rfl
  | stale | active => simp [state, SlotState.isJoining] at absent

/-- A report on another group's tag, or with no group in flight (R125). -/
theorem State.aboutFlight_other (enrolled : (s.crane c).slotState = .stale ∨ (s.crane c).slotState = .active)
    (other : ∀ f, s.flight c = some f → f.first ≠ tag) : s.aboutFlight c t tag about = refuse t .noMove .none s := by
  cases lift : s.flight c with
  | none => rcases enrolled with state | state <;> simp [State.aboutFlight, state, lift]
  | some f => rcases enrolled with state | state <;> simp [State.aboutFlight, state, lift, other f lift]

/-- The five reports about a group, refused alike before they look at it. -/
theorem exec_reports_refused {ph : PhaseReport} {n : Nat} {x : Reason} (fitted : s.fitted c = true)
    (h : ∀ t tag about, tag = n ∨ tag = ph.tag →
      (s.heard (.crane c)).aboutFlight c t tag about = refuse t x .none (s.heard (.crane c))) :
    let refused : RequestType → Host.Outcome State Fault Refusal :=
      fun q => .next ((s.heard (.crane c)).send (.crane c) (.refuse q x .none))
    exec (.phaseLocked c (.fields ph)) s = refused .phase ∧ exec (.phaseAloft c (.fields n)) s = refused .phase ∧
      exec (.phaseLanded c (.fields n)) s = refused .phase ∧ exec (.abandon c (.fields n)) s = refused .abandon ∧
      exec (.setBack c (.fields n)) s = refused .setBack :=
  ⟨State.craneRequest_refused (event := lockedEvent c) fitted (h .phase ph.tag _ (.inr rfl)),
    State.craneRequest_refused (event := aloftEvent c) fitted (h .phase n _ (.inl rfl)),
    State.craneRequest_refused (event := landedEvent c) fitted (h .phase n _ (.inl rfl)),
    State.craneRequest_refused (event := abandonEvent c) fitted (h .abandon n _ (.inl rfl)),
    State.craneRequest_refused (event := setBackEvent c) fitted (h .setBack n _ (.inl rfl))⟩

theorem positionEvent_absent {r : PositionReport}
    (absent : (s.crane c).slotState = .down ∨ (s.crane c).slotState.isJoining = true) :
    positionEvent c r s = refuse .position .notActive .none s := by
  unfold positionEvent
  cases state : (s.crane c).slotState with
  | down | joining _ => rfl
  | stale | active => simp [state, SlotState.isJoining] at absent

end Reports

/-- Settles O60: the body, the slot's fitting, its state and the tag, each decides before the request is looked at. -/
theorem requestsAreTurnedAway : Obligations.RequestsAreTurnedAway := by
  refine ⟨fun s p q page i h notJoin link => exec_malformed h notJoin link, fun s c r ph n =>
    ⟨fun unfitted => ?unfitted, fun fitted => ⟨fun absent => ⟨?reports, ?position⟩, fun enrolled other => ?otherTag⟩⟩⟩
  case unfitted =>
    have away {α : Type} (t : RequestType) (x : α) (event) := s.craneRequest_unfitted c t x event unfitted
    exact ⟨⟨away .phase ph _, away .phase n _, away .phase n _, away .abandon n _, away .setBack n _⟩,
      away .position r _, away .travel n _, away .travelCancel () _, away .leave () _, away .take () _⟩
  case reports => exact exec_reports_refused fitted fun t tag about _ => State.aboutFlight_absent (by simpa using absent)
  case position => exact State.craneRequest_refused fitted (positionEvent_absent (by simpa using absent))
  case otherTag =>
    refine exec_reports_refused fitted fun t tag about named =>
      State.aboutFlight_other (by simpa using enrolled) fun f lift => ?_
    obtain ⟨notN, notTag⟩ := other f (by simpa using lift)
    rcases named with rfl | rfl
    · exact notN
    · exact notTag

end Sys2Proof.Machine

/-! PROOFS. STATUS: the snapshots, and what each record shows (sections 3.9, 4.6, 5.8, 8.9, 10.6). -/

namespace Sys2Proof.Machine

/-! ### The reply to a STATUS (R179) -/

theorem statusReply_ne_nil (snap : Snapshot) : statusReply snap ≠ [] := by
  unfold statusReply
  dsimp only
  split
  · simp
  · simp only [ne_eq, List.map_eq_nil_iff, List.range_eq_nil]
    omega

theorem mem_statusReply {snap : Snapshot} {t : Telegram} (h : t ∈ statusReply snap) :
    ∃ part, t = .readReply snap part := by
  unfold statusReply at h
  dsimp only at h
  split at h
  · exact ⟨none, by simpa using h⟩
  · obtain ⟨i, _, rfl⟩ := List.mem_map.mp h
    exact ⟨_, rfl⟩

section Status

variable {s : State} {c : Slot} {g : GangId}

/-- A STATUS leaves everything but its reply as the telegram left it. -/
theorem exec_status {snap : State → Snapshot} {shown : Snapshot} (h : snap (s.heard .plan) = shown) :
    s.request .plan .status (.fields ()) (statusEvent snap) =
      .next ((s.heard .plan).setPort .plan
        { (s.heard .plan).planPort with outbox := s.planPort.outbox ++ statusReply shown }) := by
  have up : ((s.heard .plan).port .plan).linkUp = true := rfl
  rw [s.request_heard (p := .plan) _ _ _ (.inl (by simp)), State.answer, statusEvent, h, State.insertTelegrams, if_pos up,
    List.take_length, List.drop_length, List.append_nil]
  rfl

/-! ### What is shown of a crane (R61) -/

theorem State.trippedEast_iff : s.trippedEast c = true ↔ ∃ k : LineNo, k.val = c.val ∧ s.tripped k = true := by
  rw [← Bool.not_eq_false, State.trippedEast_eq_false]
  simp

theorem State.trippedWest_iff : s.trippedWest c = true ↔ ∃ k : LineNo, k.val + 1 = c.val ∧ s.tripped k = true := by
  rw [← Bool.not_eq_false, State.trippedWest_eq_false]
  simp

/-- The side of a crane towards a neighbour shows the pair's watch state and gap. -/
theorem State.eastSide_neighbour {d : Slot} (h : s.nearestEast c d) :
    (s.eastSide c).watch = s.watch c ∧ (s.eastSide c).gap = some (s.gap c d) := by
  simp [State.eastSide, (s.east_eq_some c d).mpr h]

theorem State.westSide_neighbour {b : Slot} (h : s.nearestWest c b) :
    (s.westSide c).watch = s.watch b ∧ (s.westSide c).gap = some (s.gap b c) := by
  simp [State.westSide, (s.west_eq_some c b).mpr h]

theorem State.eastSide_alone (h : ∀ d, ¬ s.nearestEast c d) : (s.eastSide c).watch = none ∧ (s.eastSide c).gap = none := by
  simp [State.eastSide, (s.east_eq_none c).mpr h]

theorem State.westSide_alone (h : ∀ b, ¬ s.nearestWest c b) : (s.westSide c).watch = none ∧ (s.westSide c).gap = none := by
  simp [State.westSide, (s.west_eq_none c).mpr h]

theorem SlotState.name_eq (x : SlotState) : x.name = match x with
    | .down => .down
    | .joining _ => .joining
    | .stale => .stale
    | .active => .active := by
  cases x <;> rfl

theorem State.craneStatus_reported {p : Nat} (h : (s.crane c).lastPosition = some p) :
    (s.craneStatus c).position = p ∧ (s.craneStatus c).neverReported = false := by
  simp [State.craneStatus, State.positionUsed, h]

theorem State.craneStatus_neverReported (h : (s.crane c).lastPosition = none) :
    (s.craneStatus c).position = entry s.config.park c ∧ (s.craneStatus c).neverReported = true := by
  simp [State.craneStatus, State.positionUsed, h]

theorem State.craneStatus_window {x : Window} (h : (s.spanOf c).window = some x) :
    ((s.craneStatus c).lo : Int) = max 0 (min 65535 x.lo) ∧ ((s.craneStatus c).hi : Int) = max 0 (min 65535 x.hi) ∧
      ((s.craneStatus c).saturated = true ↔ x.lo < 0 ∨ 65535 < x.lo ∨ x.hi < 0 ∨ 65535 < x.hi) := by
  have window : s.window c = x := by rw [State.window, h]
  simp only [State.craneStatus, window]
  exact ⟨heldPosition_eq _, heldPosition_eq _, Window.held_iff x⟩

/-! ### What is shown of a gang (R97) -/

theorem findIdx?_first {α : Type} [DecidableEq α] {before behind : List α} {x : α} (h : x ∉ before) :
    (before ++ x :: behind).findIdx? (· == x) = some before.length := by
  rw [List.findIdx?_append, List.findIdx?_eq_none_iff.mpr fun y hy => by
    simpa using fun e : y = x => h (e ▸ hy)]
  simp [List.findIdx?_cons]

theorem State.gangStatus_place {head i : Nat} {task : Task} {x : Section} {before behind : List GangId}
    (waits : s.gang g = .waiting head i task) (found : s.section? i = some x) (list : x.waiting = before ++ g :: behind)
    (first : g ∉ before) : (s.gangStatus g).place = some (before.length + 1) := by
  simp only [State.gangStatus, waits, State.placeOf, found, Option.bind_some, list, findIdx?_first first, Option.map_some]

theorem State.gangStatus_noPlace (h : ∀ i, ¬ (s.gang g).waitingAt i) : (s.gangStatus g).place = none := by
  cases state : s.gang g with
  | waiting head i task => exact absurd ⟨head, task, state⟩ (h i)
  | off | ashore _ | aboard _ _ _ _ _ => simp only [State.gangStatus, state]

theorem State.gangStatus_sinceCheck {head i : Nat} {task : Task} {last : Time} {overdue : Bool}
    (aboard : s.gang g = .aboard head i task last overdue) :
    (s.gangStatus g).sinceCheck = some (s.clock - last).toInt := by
  simp only [State.gangStatus, aboard, timeSince]

theorem State.gangStatus_noCheck (h : ∀ i, ¬ (s.gang g).aboardAt i) : (s.gangStatus g).sinceCheck = none := by
  cases state : s.gang g with
  | aboard head i task last overdue => exact absurd ⟨head, task, last, overdue, state⟩ (h i)
  | off | ashore _ | waiting _ _ _ => simp only [State.gangStatus, state]

/-! ### What is shown of a geometry (R174) -/

theorem State.geometryStatus_eq (s : State) (c : Slot) : s.geometryStatus c = {
    inForce := ((s.override c).or (s.crane c).declared).getD defaultGeometry
    source := if s.override c ≠ none then some .plan else if (s.crane c).declared ≠ none then some .crane else none
    override := s.override c } := by
  unfold State.geometryStatus State.geometry State.geometrySource
  cases s.override c with
  | some g => simp
  | none => cases (s.crane c).declared <;> simp

end Status

/-- Settles O55: each snapshot is read off the state, and each record field by field. -/
theorem statusChangesNothing : Obligations.StatusChangesNothing := by
  refine ⟨fun s => ⟨rfl, exec_status rfl, exec_status rfl, exec_status ?stands, exec_status rfl, exec_status rfl,
    fun snap => ⟨statusReply_ne_nil snap, fun t h => mem_statusReply h⟩⟩, fun s c => ?crane, fun s g => ?gang,
    State.geometryStatus_eq⟩
  case stands => rfl
  case crane =>
    exact ⟨rfl, SlotState.name_eq _, fun p => State.craneStatus_reported, State.craneStatus_neverReported, rfl, rfl,
      fun x => State.craneStatus_window, rfl, rfl, rfl, fun d => State.eastSide_neighbour,
      fun b => State.westSide_neighbour, State.eastSide_alone, State.westSide_alone, State.trippedEast_iff,
      State.trippedWest_iff, rfl⟩
  case gang =>
    exact ⟨rfl, fun head i task x before behind => State.gangStatus_place, State.gangStatus_noPlace,
      fun head i task last overdue => State.gangStatus_sinceCheck, State.gangStatus_noCheck⟩

end Sys2Proof.Machine

/-! PROOFS. The Quay Clock, telegrams sent, and a receiver's bytes one by one (sections 1.3 and 11.1). -/

namespace Sys2Proof.Machine

/-! ### The receive state of a port -/

section Receivers

variable {s : State} {p : PortId} {r : Receiver} {b : Byte}

@[simp] theorem State.setReceiver_rx (s : State) (p : PortId) (r : Receiver) : ((s.setReceiver p r).port p).rx = r := by
  rw [State.setReceiver, State.port_setPort_same]

@[simp] theorem State.setReceiver_setReceiver (s : State) (p : PortId) (r x : Receiver) :
    (s.setReceiver p r).setReceiver p x = s.setReceiver p x := by
  simp [State.setReceiver]

theorem State.setReceiver_same (h : (s.port p).rx = r) : s.setReceiver p r = s := by
  rw [State.setReceiver, ← h, State.setPort_port_same]

/-- A byte that completes no frame moves the receive state and does nothing else (R176). -/
theorem exec_byteArrival_waits (h : ((s.port p).rx.take b).2 = none) :
    exec (.byteArrival p b false) s = .next (s.setReceiver p ((s.port p).rx.take b).1) := by
  show execByteArrival p b false s = _
  rw [execByteArrival, if_neg Bool.false_ne_true, h]

/-- The same, by what the receive state is and becomes. -/
theorem exec_byteArrival_moves {x : Receiver} (rx : (s.port p).rx = r) (moves : r.take b = (x, none)) :
    exec (.byteArrival p b false) s = .next (s.setReceiver p x) := by
  rw [exec_byteArrival_waits (by rw [rx, moves]), rx, moves]

section LastByte

variable {high ty : Byte} {len : Nat} {body : List Byte} (rx : (s.port p).rx = .check len ty body (some high))
  (good : frameCrc len ty body = high ++ b)

include rx good

/-- The last byte of a frame of good CRC: its telegram is taken (R176). -/
theorem exec_byteArrival_completes {i : Instr} (command : commandOf p ty body = some i) :
    exec (.byteArrival p b false) s = takeTelegram i (s.setReceiver p .hunt) := by
  show execByteArrival p b false s = _
  simp only [execByteArrival, rx, Receiver.take, good, command, Bool.false_eq_true, if_false, if_true]

/-- The last byte of a frame of good CRC that is no command of the port: it is discarded (R176). -/
theorem exec_byteArrival_unknown (unknown : commandOf p ty body = none) :
    exec (.byteArrival p b false) s = .next (s.setReceiver p .hunt) := by
  show execByteArrival p b false s = _
  simp only [execByteArrival, rx, Receiver.take, good, unknown, Bool.false_eq_true, if_false, if_true]

end LastByte

end Receivers

/-! ### What a byte does to the receive state (R176) -/

theorem Receiver.take_hunt (b : Byte) : Receiver.hunt.take b = (if b = 0xA5#8 then .length else .hunt, none) := rfl

theorem Receiver.take_length (b : Byte) :
    Receiver.length.take b = (if 1 ≤ b.toNat ∧ b.toNat ≤ 200 then .type b.toNat else .hunt, none) := by
  have inRange : (b.toNat = 0 ∨ 200 < b.toNat) ↔ ¬ (1 ≤ b.toNat ∧ b.toNat ≤ 200) := by omega
  simp only [Receiver.take, inRange, ite_not]

theorem Receiver.take_type {len : Nat} (h : 1 ≤ len) (b : Byte) :
    (Receiver.type len).take b = (.body len b [], none) := by
  rw [Receiver.take, bodyState, if_pos (show ([] : List Byte).length < len from h)]

theorem Receiver.take_body (len : Nat) (ty : Byte) (bytes : List Byte) (b : Byte) :
    (Receiver.body len ty bytes).take b =
      (if bytes.length + 1 < len then .body len ty (bytes ++ [b]) else .check len ty (bytes ++ [b]) none, none) := by
  rw [Receiver.take, bodyState, List.length_append, List.length_singleton]

theorem Receiver.take_check (len : Nat) (ty : Byte) (bytes : List Byte) (b : Byte) :
    (Receiver.check len ty bytes none).take b = (.check len ty bytes (some b), none) := rfl

theorem Receiver.take_badCheck {len : Nat} {ty high b : Byte} {bytes : List Byte} (h : frameCrc len ty bytes ≠ high ++ b) :
    (Receiver.check len ty bytes (some high)).take b = (.hunt, none) := by
  rw [Receiver.take, if_neg h]

/-! ### The Quay Clock and the telegrams sent (R4, R5, R179) -/

theorem clock_succ_toNat (now : Time) :
    (now + 1#32).toNat = if now.toNat = 4294967295 then 0 else now.toNat + 1 := by
  rw [BitVec.toNat_add]
  split <;> simp <;> omega

theorem reached_iff_zero_or_pos (now deadline : Time) :
    reached now deadline = true ↔ now - deadline = 0#32 ∨ 0 < (now - deadline).toInt := by
  have zero : now - deadline = 0#32 ↔ (now - deadline).toInt = 0 := by
    rw [← BitVec.toInt_inj]
    rfl
  rw [reached, decide_eq_true_iff, timeSince, zero]
  omega

section Sent

variable {s : State} {p : PortId} {t : Telegram} {rest : List Telegram}

theorem exec_telegramSent_next (up : (s.port p).linkUp = true) (waits : (s.port p).outbox = t :: rest) :
    exec (.telegramSent p) s = .next (s.setPort p { s.port p with outbox := rest }) := by
  show execTelegramSent p s = _
  rw [execTelegramSent, if_pos up, waits, List.tail_cons]

theorem exec_telegramSent_nothing (h : (s.port p).linkUp = false ∨ (s.port p).outbox = []) :
    exec (.telegramSent p) s = .next s := by
  show execTelegramSent p s = _
  by_cases up : (s.port p).linkUp = true
  · have empty : (s.port p).outbox = [] := h.resolve_left (by simp [up])
    have same : ({ s.port p with outbox := (s.port p).outbox.tail } : Port) = s.port p := by
      rw [empty, List.tail_nil, ← empty]
    rw [execTelegramSent, if_pos up, same, State.setPort_port_same]
  · rw [execTelegramSent, if_neg up]

end Sent

/-- Settles O56: the clock's addition, then one lemma per row of R176's table. -/
theorem timeAndLinkEvents : Obligations.TimeAndLinkEvents := by
  refine ⟨⟨fun s => ⟨_, rfl, rfl, clock_succ_toNat s.clock⟩, reached_iff_zero_or_pos⟩, fun s p =>
    ⟨fun t rest => exec_telegramSent_next, exec_telegramSent_nothing, rfl, fun b => rfl, ?_⟩⟩
  exact ⟨fun b rx => exec_byteArrival_moves rx (Receiver.take_hunt b),
    fun b rx => exec_byteArrival_moves rx (Receiver.take_length b),
    fun b len rx h => exec_byteArrival_moves rx (Receiver.take_type h b),
    fun b len ty bytes rx => exec_byteArrival_moves rx (Receiver.take_body len ty bytes b),
    fun b len ty bytes rx => exec_byteArrival_moves rx (Receiver.take_check len ty bytes b),
    fun b high len ty bytes rx bad => exec_byteArrival_moves rx (Receiver.take_badCheck bad)⟩

end Sys2Proof.Machine

/-! PROOFS. Frames sent byte by byte: what they spell is taken, and the bad ones change nothing (section 11.1). -/

namespace Sys2Proof.Machine

/-! ### Running commands one after another -/

theorem runAll_cons {i : Instr} {rest : List Instr} {s t : State} (h : exec i s = .next t) :
    runAll (i :: rest) s = runAll rest t := by
  rw [runAll, h]

theorem runAll_append {before behind : List Instr} {s t : State} (h : runAll before s = .next t) :
    runAll (before ++ behind) s = runAll behind t := by
  induction before generalizing s with
  | nil => rw [Host.Outcome.next.inj h, List.nil_append]
  | cons i rest ih =>
    obtain ⟨u, hu⟩ := exec_next i s
    rw [runAll_cons hu] at h
    rw [List.cons_append, runAll_cons hu, ih h]

theorem runAll_one {i : Instr} {s : State} : runAll [i] s = exec i s := by
  obtain ⟨t, h⟩ := exec_next i s
  rw [runAll_cons h, h, runAll]

/-! ### The bytes of a frame (R175, R176) -/

section Frames

variable {s : State} {p : PortId} {ty : Byte} {body : List Byte}

/-- A list of bytes arriving on a port, none with a stop-bit error. -/
def arrivals (p : PortId) (bytes : List Byte) : List Instr := bytes.map fun b => .byteArrival p b false

theorem arrivals_append (p : PortId) (xs ys : List Byte) : arrivals p (xs ++ ys) = arrivals p xs ++ arrivals p ys :=
  List.map_append

/-- A byte that moves the receive state, in a run. -/
theorem runAll_arrivals_cons {r x : Receiver} {b : Byte} {bytes : List Byte} (moves : r.take b = (x, none)) :
    runAll (arrivals p (b :: bytes)) (s.setReceiver p r) = runAll (arrivals p bytes) (s.setReceiver p x) := by
  refine runAll_cons ?_
  rw [exec_byteArrival_moves (State.setReceiver_rx s p r) moves, State.setReceiver_setReceiver]

/-- The body bytes fill the frame one by one, from those already in. -/
theorem runAll_body {len : Nat} {bytes rest : List Byte} (more : rest ≠ []) (full : bytes.length + rest.length = len) :
    runAll (arrivals p rest) (s.setReceiver p (.body len ty bytes)) =
      .next (s.setReceiver p (.check len ty (bytes ++ rest) none)) := by
  induction rest generalizing bytes with
  | nil => exact absurd rfl more
  | cons b rest ih =>
    rw [List.length_cons] at full
    rw [runAll_arrivals_cons (Receiver.take_body len ty bytes b)]
    cases rest with
    | nil =>
      rw [if_neg (by simp at full; omega)]
      rfl
    | cons c rest =>
      have room : bytes.length + 1 < len := by rw [List.length_cons] at full; omega
      rw [if_pos room, ih (List.cons_ne_nil _ _) (by rw [List.length_append, List.length_singleton]; omega),
        List.append_assoc, List.singleton_append]

theorem byteOf_toNat {n : Nat} (h : n < 256) : (byteOf n).toNat = n := by
  rw [byteOf, BitVec.toNat_ofNat]
  exact Nat.mod_eq_of_lt h

/-- A frame up to its body leaves the receiver waiting for the CRC. -/
theorem runAll_frameStart (hunts : (s.port p).rx = .hunt) (some_ : 1 ≤ body.length) (most : body.length ≤ 200) :
    runAll (arrivals p ([0xA5#8, byteOf body.length, ty] ++ body)) s =
      .next (s.setReceiver p (.check body.length ty body none)) := by
  have length : (byteOf body.length).toNat = body.length := byteOf_toNat (by omega)
  have nonempty : body ≠ [] := List.ne_nil_of_length_pos some_
  have start : runAll (arrivals p ([0xA5#8, byteOf body.length, ty] ++ body)) (s.setReceiver p .hunt) =
      .next (s.setReceiver p (.check body.length ty body none)) := by
    simp only [List.cons_append, List.nil_append]
    rw [runAll_arrivals_cons (Receiver.take_hunt _), if_pos rfl, runAll_arrivals_cons (Receiver.take_length _), length,
      if_pos ⟨some_, most⟩, runAll_arrivals_cons (Receiver.take_type some_ ty),
      runAll_body nonempty (by simp), List.nil_append]
  rwa [State.setReceiver_same hunts] at start

/-- A whole frame, by its two last bytes. -/
theorem runAll_framed (hunts : (s.port p).rx = .hunt) (some_ : 1 ≤ body.length) (most : body.length ≤ 200)
    (high low : Byte) :
    runAll (arrivals p ([0xA5#8, byteOf body.length, ty] ++ body ++ [high, low])) s =
      exec (.byteArrival p low false) (s.setReceiver p (.check body.length ty body (some high))) := by
  rw [arrivals_append, runAll_append (runAll_frameStart hunts some_ most),
    runAll_arrivals_cons (Receiver.take_check _ _ _ high)]
  exact runAll_one

/-- A frame whose CRC is wrong is discarded (R176). -/
theorem runAll_badCrc (hunts : (s.port p).rx = .hunt) (some_ : 1 ≤ body.length) (most : body.length ≤ 200)
    {high low : Byte} (bad : high ++ low ≠ frameCrc body.length ty body) :
    runAll (arrivals p ([0xA5#8, byteOf body.length, ty] ++ body ++ [high, low])) s = .next s := by
  rw [runAll_framed hunts some_ most,
    exec_byteArrival_moves (State.setReceiver_rx s p _) (Receiver.take_badCheck bad.symm), State.setReceiver_setReceiver,
    State.setReceiver_same hunts]

theorem halves_append (x : BitVec 16) : (x.extractLsb' 8 8 : Byte) ++ (x.extractLsb' 0 8 : Byte) = x := by
  apply BitVec.eq_of_getLsbD_eq
  intro i hi
  rw [BitVec.getLsbD_append]
  by_cases low : i < 8
  · simp [low]
  · simp [low, show i - 8 < 8 by omega, show 8 + (i - 8) = i by omega]

/-- The two CRC bytes of a frame are its CRC, high byte first (R175). -/
theorem frame_eq (ty : Byte) (body : List Byte) : frame ty body = [0xA5#8, byteOf body.length, ty] ++ body ++
    [(frameCrc body.length ty body).extractLsb' 8 8, (frameCrc body.length ty body).extractLsb' 0 8] := rfl

/-- A good frame: its command is taken (R176). -/
theorem runAll_command {i : Instr} (hunts : (s.port p).rx = .hunt) (some_ : 1 ≤ body.length) (most : body.length ≤ 200)
    (command : commandOf p ty body = some i) : runAll (arrivals p (frame ty body)) s = takeTelegram i s := by
  rw [frame_eq, runAll_framed hunts some_ most,
    exec_byteArrival_completes (State.setReceiver_rx s p _) (halves_append _).symm command, State.setReceiver_setReceiver,
    State.setReceiver_same hunts]

/-- A good frame of a type the master does not send on the port is discarded (R176). -/
theorem runAll_unknownType (hunts : (s.port p).rx = .hunt) (some_ : 1 ≤ body.length) (most : body.length ≤ 200)
    (unknown : requestOf p ty = none) : runAll (arrivals p (frame ty body)) s = .next s := by
  have noCommand : commandOf p ty body = none := by rw [commandOf, unknown]
  rw [frame_eq, runAll_framed hunts some_ most,
    exec_byteArrival_unknown (State.setReceiver_rx s p _) (halves_append _).symm noCommand, State.setReceiver_setReceiver,
    State.setReceiver_same hunts]

end Frames

/-! ### What a laid-out body reads back as (R180, section 11.6) -/

theorem readTwo_two {n : Nat} (h : n < 65536) : readTwo (BitVec.ofNat 8 (n / 256)) (BitVec.ofNat 8 n) = n := by
  rw [readTwo, BitVec.toNat_ofNat, BitVec.toNat_ofNat]
  omega

theorem readField_two {n : Nat} (h : twoBytes n = true) : readField (two n) = .fields n :=
  congrArg Body.fields (readTwo_two (of_decide_eq_true h))

theorem readSigned_two {v : Int} (h : velocityField v = true) :
    readSigned (BitVec.ofNat 8 ((BitVec.ofInt 16 v).toNat / 256)) (BitVec.ofNat 8 (BitVec.ofInt 16 v).toNat) = v := by
  obtain ⟨least, most⟩ : -32768 ≤ v ∧ v ≤ 32767 := of_decide_eq_true h
  rw [readSigned, readTwo_two (BitVec.ofInt 16 v).isLt, BitVec.ofNat_toNat, BitVec.setWidth_eq, BitVec.toInt_ofInt]
  exact Int.bmod_eq_of_le (by omega) (by omega)

theorem readPosition_positionBody {r : PositionReport} (position : twoBytes r.position = true)
    (velocity : velocityField r.velocity = true) : readPosition (positionBody r) = .fields r := by
  have hp := readTwo_two (of_decide_eq_true position)
  have hv := readSigned_two velocity
  exact congrArg Body.fields (PositionReport.mk.injEq .. ▸ ⟨hp, hv⟩)

theorem readArrive_arriveBody {r : ArriveReport} (call : twoBytes r.call = true) (slot : oneByte r.slot = true)
    (lane : oneByte r.lane = true) (truck : twoBytes r.truck = true) : readArrive (arriveBody r) = .fields r := by
  have hc := readTwo_two (of_decide_eq_true call)
  have hs : (byteOf r.slot).toNat = r.slot := byteOf_toNat (of_decide_eq_true slot)
  have hl : (byteOf r.lane).toNat = r.lane := byteOf_toNat (of_decide_eq_true lane)
  have ht := readTwo_two (of_decide_eq_true truck)
  exact congrArg Body.fields (ArriveReport.mk.injEq .. ▸ ⟨hc, hs, hl, ht⟩)

theorem readAlertMask_halves (m : BitVec 16) :
    readAlertMask [m.extractLsb' 8 8, m.extractLsb' 0 8] = .fields m := congrArg Body.fields (halves_append m)

/-! ### What a spelled command reads back as -/

/-- A request of the port, its body laid out and of a length a frame holds, and the command it reads back as. -/
structure LaidOut (p : PortId) (t : RequestType) (body : List Byte) (i : Instr) : Prop where
  request : requestOf p t.code = some t
  reads : laidOut p t body = some i
  length : 1 ≤ body.length ∧ body.length ≤ 200
  telegram : (telegramOf i).isSome = true

theorem LaidOut.commandOf {p : PortId} {t : RequestType} {body : List Byte} {i : Instr} (h : LaidOut p t body i) :
    commandOf p t.code body = some i := by
  rw [Machine.commandOf, h.request]
  simp only [h.reads]

theorem two_length (n : Nat) : 1 ≤ (two n).length ∧ (two n).length ≤ 200 := by
  rw [two, List.length_cons, List.length_singleton]
  omega

/-- A request of one two-byte field, laid out by the command that reads it (log 4). -/
theorem LaidOut.field {p : PortId} {t : RequestType} {n : Nat} {command : Body Nat → Instr}
    (request : requestOf p t.code = some t) (reads : ∀ body, laidOut p t body = some (command (readField body)))
    (good : twoBytes n = true) (telegram : (telegramOf (command (.fields n))).isSome = true) :
    LaidOut p t (two n) (command (.fields n)) where
  request := request
  reads := by rw [reads, readField_two good]
  length := two_length n
  telegram := telegram

/-- A request that carries nothing: one byte, 0 (R177). -/
theorem LaidOut.nothing {p : PortId} {t : RequestType} {command : Body Unit → Instr}
    (request : requestOf p t.code = some t) (reads : ∀ body, laidOut p t body = some (command (readNothing body)))
    (telegram : (telegramOf (command (.fields ()))).isSome = true) : LaidOut p t [0#8] (command (.fields ())) where
  request := request
  reads := reads _
  length := ⟨Nat.le_refl _, by decide⟩
  telegram := telegram

theorem spelled_laidOut {i : Instr} {p : PortId} {ty : Byte} {body : List Byte} (good : i.wellFormed = true)
    (h : spelled i = some (p, ty, body)) : ∃ t : RequestType, ty = t.code ∧ LaidOut p t body i := by
  unfold spelled at h
  split at h
  case h_1 c r =>
    cases h
    obtain ⟨position, velocity⟩ := Bool.and_eq_true_iff.mp good
    exact ⟨.position, rfl, rfl, congrArg (some ∘ Instr.position c) (readPosition_positionBody position velocity),
      ⟨Nat.le_add_left 1 3, Nat.le_add_left 4 196⟩, rfl⟩
  case h_2 => cases h; exact ⟨.travel, rfl, .field rfl (fun _ => rfl) good rfl⟩
  case h_3 => cases h; exact ⟨.travelCancel, rfl, .nothing rfl (fun _ => rfl) rfl⟩
  case h_4 => cases h; exact ⟨.take, rfl, .nothing rfl (fun _ => rfl) rfl⟩
  case h_5 => cases h; exact ⟨.leave, rfl, .nothing rfl (fun _ => rfl) rfl⟩
  case h_6 => cases h; exact ⟨.abandon, rfl, .field rfl (fun _ => rfl) good rfl⟩
  case h_7 => cases h; exact ⟨.setBack, rfl, .field rfl (fun _ => rfl) good rfl⟩
  case h_8 => cases h; exact ⟨.lanes, rfl, rfl, rfl, ⟨Nat.le_refl 1, Nat.le_add_left 1 199⟩, rfl⟩
  case h_9 r =>
    cases h
    simp only [Instr.wellFormed, Body.all, Bool.and_eq_true] at good
    obtain ⟨⟨⟨call, slot⟩, lane⟩, truck⟩ := good
    exact ⟨.arrive, rfl, rfl, congrArg (some ∘ Instr.arrive) (readArrive_arriveBody call slot lane truck),
      ⟨Nat.le_add_left 1 5, Nat.le_add_left 6 194⟩, rfl⟩
  case h_10 => cases h; exact ⟨.setup, rfl, .nothing rfl (fun _ => rfl) rfl⟩
  case h_11 => cases h; exact ⟨.operate, rfl, .nothing rfl (fun _ => rfl) rfl⟩
  case h_12 => cases h; exact ⟨.clearBerth, rfl, .nothing rfl (fun _ => rfl) rfl⟩
  case h_13 => cases h; exact ⟨.delete, rfl, .field rfl (fun _ => rfl) good rfl⟩
  case h_14 => cases h; exact ⟨.readNext, rfl, .nothing rfl (fun _ => rfl) rfl⟩
  case h_15 => cases h; exact ⟨.alertRead, rfl, .nothing rfl (fun _ => rfl) rfl⟩
  case h_16 m =>
    cases h
    exact ⟨.alertAck, rfl, rfl, congrArg (some ∘ Instr.alertAck) (readAlertMask_halves m),
      ⟨Nat.le_add_left 1 1, Nat.le_add_left 2 198⟩, rfl⟩
  case h_17 => cases h; exact ⟨.recall, rfl, .field rfl (fun _ => rfl) good rfl⟩
  case h_18 => cases h

/-- Settles O58: the frame is received whole, its body reads back as the command, and a telegram is taken as its command. -/
theorem framedCommandIsTaken : Obligations.FramedCommandIsTaken := by
  intro s i p ty body good spells hunts
  obtain ⟨t, rfl, laid⟩ := spelled_laidOut good spells
  have taken := runAll_command hunts laid.length.1 laid.length.2 laid.commandOf
  rwa [takeTelegram_eq, if_pos laid.telegram] at taken

end Sys2Proof.Machine

/-! PROOFS. Codes and byte layouts of what the part sends (sections 11.1, 11.4 to 11.6). -/

namespace Sys2Proof.Machine

/-! ### Fields of one, two and four bytes (R180) -/

theorem two_pair {n : Nat} (h : n ≤ 65535) :
    (BitVec.ofNat 8 (n / 256)).toNat * 256 + (BitVec.ofNat 8 n).toNat = n := readTwo_two (by omega)

theorem four_append (t : Time) :
    (t.extractLsb' 24 8 : Byte) ++ (t.extractLsb' 16 8 : Byte) ++ (t.extractLsb' 8 8 : Byte) ++ (t.extractLsb' 0 8 : Byte) =
      t := by
  rw [BitVec.extractLsb'_append_extractLsb'_eq_extractLsb' (by rfl),
    BitVec.extractLsb'_append_extractLsb'_eq_extractLsb' (by rfl),
    BitVec.extractLsb'_append_extractLsb'_eq_extractLsb' (by rfl)]
  exact BitVec.extractLsb'_eq_self

theorem byteOf_slot (c : Fin 8) : (byteOf c.val).toNat = c.val := byteOf_toNat (by omega)

theorem laneCode_spec (l : Option Lane) : match l with
    | some x => (laneCode l).toNat = x.val
    | none => laneCode l = 0xFF#8 := by
  cases l with
  | none => rfl
  | some x => exact byteOf_slot x

theorem Job.kindCode_lt (j : Job) : j.kindCode < 256 := by
  rcases j with (_ | _) | (_ | _) | _ | _ <;> decide

theorem Job.levelCode_lt (j : Job) : j.levelCode < 256 := by
  rcases j with (_ | _) | (_ | _) | _ | _ <;> decide

theorem GroupMark.code_lt (m : GroupMark) : m.code < 256 := by cases m <;> decide

theorem Phase.code_lt (x : Phase) : x.code < 256 := by cases x <;> decide

theorem TruckState.code_lt (x : TruckState) : x.code < 256 := by cases x <;> decide

theorem Direction.code_lt (x : Direction) : x.code < 256 := by cases x <;> decide

theorem MoveResult.code_lt (x : MoveResult) : x.code < 256 := by cases x <;> decide

/-- The first flag byte of a WINDOW: seven marks from bit 0 on (Table 11.6). -/
theorem windowFlags_bits (a b c d e f g : Bool) : (List.range 8).map (fun i => (byteOf (flag a 0 + flag b 1 + flag c 2 +
    flag d 3 + flag e 4 + flag f 5 + flag g 6)).getLsbD i) = [a, b, c, d, e, f, g, false] := by
  revert a b c d e f g
  decide

theorem windowMarks_bits (a b : Bool) : (List.range 8).map (fun i => (byteOf (flag a 0 + flag b 1)).getLsbD i) =
    [a, b, false, false, false, false, false, false] := by
  revert a b
  decide

/-- The CRC after each byte of "123456789" in turn (R175). -/
theorem crcOf_digits :
    crcOf [0x31#8, 0x32#8, 0x33#8, 0x34#8, 0x35#8, 0x36#8, 0x37#8, 0x38#8, 0x39#8] = 0x29B1#16 := by
  rw [crcOf, List.foldl_cons, show crcByte 0xFFFF#16 0x31#8 = 0xC782#16 from rfl,
    List.foldl_cons, show crcByte 0xC782#16 0x32#8 = 0x3DBA#16 from rfl,
    List.foldl_cons, show crcByte 0x3DBA#16 0x33#8 = 0x5BCE#16 from rfl,
    List.foldl_cons, show crcByte 0x5BCE#16 0x34#8 = 0x5349#16 from rfl,
    List.foldl_cons, show crcByte 0x5349#16 0x35#8 = 0x4560#16 from rfl,
    List.foldl_cons, show crcByte 0x4560#16 0x36#8 = 0x2EF4#16 from rfl,
    List.foldl_cons, show crcByte 0x2EF4#16 0x37#8 = 0x7718#16 from rfl,
    List.foldl_cons, show crcByte 0x7718#16 0x38#8 = 0xA12B#16 from rfl,
    List.foldl_cons, show crcByte 0xA12B#16 0x39#8 = 0x29B1#16 from rfl,
    List.foldl_nil]

theorem frame_length (ty : Byte) (body : List Byte) : (frame ty body).length = body.length + 5 := by
  simp [frame]

/-! ### The codes (Tables 11.2 to 11.4) -/

theorem Telegram.code_eq (t : Telegram) : t.code = match t with
    | .joinAck _ _ => 0x30#8
    | .window _ => 0x31#8
    | .travelGrant _ _ _ _ _ => 0x32#8
    | .move _ => 0x33#8
    | .phaseAck _ => 0x34#8
    | .standReady _ _ _ => 0x38#8
    | .standLost _ _ _ => 0x39#8
    | .refuse _ _ _ => 0x3F#8
    | .laneAck _ => 0x50#8
    | .call _ => 0x51#8
    | .cancel _ _ _ => 0x52#8
    | .depart _ _ _ _ => 0x53#8
    | .gangAck _ => 0x70#8
    | .grant _ _ => 0x71#8
    | .overdue _ _ _ _ _ => 0x72#8
    | .planAck _ => 0xA0#8
    | .readReply _ _ => 0xA1#8 := by
  cases t <;> rfl

/-! ### The layouts of section 11.6 -/

/-- A MOVE from the two bytes of its footprint on (Table 11.7). -/
theorem footprintBytes_spec {f : Footprint} (h : ∀ i ∈ f.sections, i ≤ 255) : ∃ f1 f2, footprintBytes f = [f1, f2] ∧
    (f.sections = [f1.toNat] ∧ f2 = 0#8 ∨ f.sections = [f1.toNat, f2.toNat]) := by
  cases f with
  | one i =>
    have low : (byteOf i).toNat = i := byteOf_toNat (Nat.lt_succ_of_le (h i (by simp [Footprint.sections])))
    exact ⟨_, _, rfl, .inl ⟨by rw [low, Footprint.sections], rfl⟩⟩
  | two i =>
    have low : (byteOf i).toNat = i := byteOf_toNat (Nat.lt_succ_of_le (h i (by simp [Footprint.sections])))
    have high : (byteOf (i + 1)).toNat = i + 1 :=
      byteOf_toNat (Nat.lt_succ_of_le (h (i + 1) (by simp [Footprint.sections])))
    exact ⟨_, _, rfl, .inr (by rw [low, high, Footprint.sections])⟩

theorem flag_zero (b : Bool) : byteOf (flag b 0) = if b then 1#8 else 0#8 := by cases b <;> rfl

/-- Settles O57: the CRC and the frame; the two frames discarded; the tables of codes; and the layouts field by field. -/
theorem framesGoodAndBad : Obligations.FramesGoodAndBad := by
  refine ⟨⟨crcOf_digits, fun ty body some_ most => ?frame⟩, fun s p ty body hunts some_ most =>
    ⟨fun high low => runAll_badCrc hunts some_ most, runAll_unknownType hunts some_ most⟩, ⟨Telegram.code_eq, ?codes⟩, ?layouts⟩
  case frame =>
    have length := frame_length ty body
    exact ⟨by omega, by omega, _, _, halves_append _, rfl⟩
  case codes => exact ⟨rfl, rfl, fun _ => rfl, rfl, rfl, rfl, rfl, rfl, rfl, rfl, rfl, rfl, rfl, rfl, rfl⟩
  case layouts =>
    intro pair laneByte
    have byte : ∀ {n : Nat}, n ≤ 255 → (byteOf n).toNat = n := fun h => byteOf_toNat (Nat.lt_succ_of_le h)
    have lane : ∀ l, laneByte (laneCode l) l := laneCode_spec
    refine ⟨fun w lo hi goal => ?window, fun m tag bay size row height lash => ?record,
      fun m recalls count position sections => ?move, fun k number position size tags count => ?call,
      fun r tag bay size truck recalls => ?completion, fun count rs most few => ?log⟩
    case window =>
      have goalField : w.goal.getD 0 ≤ 65535 := by
        cases h : w.goal with
        | none => exact Nat.zero_le _
        | some g => exact goal g h
      exact ⟨_, _, _, _, _, _, _, _, rfl, two_pair lo, two_pair hi, two_pair goalField, windowFlags_bits .., windowMarks_bits ..⟩
    case record =>
      exact ⟨_, _, _, _, _, _, _, _, _, _, _, rfl, two_pair tag, byteOf_toNat m.job.kindCode_lt,
        byteOf_toNat m.job.levelCode_lt, byte bay, byte size, byteOf_toNat m.mark.code_lt, byte row, two_pair height,
        byte lash⟩
    case move =>
      obtain ⟨f1, f2, bytes, spec⟩ := footprintBytes_spec sections
      refine ⟨_, _, _, _, _, _, _, _, _, _, f1, f2, _, _, ?_, byteOf_slot m.slot, byteOf_toNat m.phase.code_lt,
        byteOf_toNat m.truck.code_lt, lane m.lane, byte recalls, byte count, four_append m.takenTime, spec,
        two_pair position⟩
      rw [Telegram.frame?, Telegram.body?, moveBody, bytes]
      rfl
    case call =>
      rcases count with ⟨a, one⟩ | ⟨a, b, both⟩
      · have ha : a ≤ 65535 := tags a (by simp [one])
        refine ⟨_, _, _, _, _, _, _, _, _, _, _, _, _, _, two a, ?_, two_pair number, byteOf_slot k.slot, byteOf_slot k.lane,
          two_pair position, four_append k.due, byteOf_toNat k.direction.code_lt, byte size, flag_zero k.saturated,
          byteOf_toNat (by simp [one]), .inl ⟨_, _, a, rfl, one, two_pair ha⟩⟩
        rw [Telegram.frame?, Telegram.body?, callBody, one]
        rfl
      · have ha : a ≤ 65535 := tags a (by simp [both])
        have hb : b ≤ 65535 := tags b (by simp [both])
        refine ⟨_, _, _, _, _, _, _, _, _, _, _, _, _, _, two a ++ two b, ?_, two_pair number, byteOf_slot k.slot,
          byteOf_slot k.lane, two_pair position, four_append k.due, byteOf_toNat k.direction.code_lt, byte size,
          flag_zero k.saturated, byteOf_toNat (by simp [both]),
          .inr ⟨_, _, _, _, a, b, rfl, both, two_pair ha, two_pair hb⟩⟩
        rw [Telegram.frame?, Telegram.body?, callBody, both]
        rfl
    case completion =>
      have truckField : r.truckId.getD 0 ≤ 65535 := by
        cases h : r.truckId with
        | none => exact Nat.zero_le _
        | some n => exact truck n h
      exact ⟨_, _, _, _, _, _, _, _, _, _, _, _, _, _, _, _, _, _, _, _, rfl, two_pair tag, byteOf_slot r.slot,
        byteOf_toNat r.job.kindCode_lt, byteOf_toNat r.job.levelCode_lt, byte bay, byte size, lane r.lane,
        two_pair truckField, four_append r.takenTime, four_append r.endTime, byte recalls, byteOf_toNat r.result.code_lt⟩
    case log => exact ⟨_, _, _, rfl, two_pair most, byteOf_toNat (by omega)⟩

end Sys2Proof.Machine

/-! PROOFS. A changed check interval applied to every running check-in timer (R94). -/

namespace Sys2Proof.Machine

/-- A port with telegrams put behind those that wait, where its link is up (R179). -/
def Port.told (p : Port) (ts : List Telegram) : Port := { p with outbox := if p.linkUp then p.outbox ++ ts else p.outbox }

theorem Port.told_nil (p : Port) : p.told [] = p := by
  simp [Port.told]

theorem Port.told_told (p : Port) (ts us : List Telegram) : (p.told ts).told us = p.told (ts ++ us) := by
  cases up : p.linkUp <;> simp [Port.told, up]

theorem State.send_gangPort (s : State) (t : Telegram) : (s.send .gang t).gangPort = s.gangPort.told [t] := by
  have port : s.port .gang = s.gangPort := rfl
  unfold State.send Port.told
  rw [port]
  by_cases up : s.gangPort.linkUp = true
  · rw [if_pos up, if_pos up]
    rfl
  · rw [if_neg up, if_neg up]

/-! ### One gang supervised (R92, R93) -/

section OneGang

variable {s : State} {g h : GangId}

/-- A gang aboard with the overdue mark set. -/
def Gang.nowOverdue : Gang → Gang
  | .aboard head i task last _ => .aboard head i task last true
  | .off => .off
  | .ashore n => .ashore n
  | .waiting head i task => .waiting head i task

/-- The notice of a gang whose timer has run out (R93). -/
def State.lateNotice (s : State) (g : GangId) : List Telegram :=
  match s.gang g with
  | .aboard head i task last _ => if s.checkLapsed g then [.overdue g i task head last] else []
  | .off | .ashore _ | .waiting _ _ _ => []

/-- Only a gang aboard that is not yet overdue has a timer to run out. -/
theorem State.aboard_of_lapsed (lapsed : s.checkLapsed g = true) :
    ∃ head i task last, s.gang g = .aboard head i task last false ∧
      (s.config.checkInterval : Int) < (s.clock - last).toInt := by
  cases state : s.gang g with
  | aboard head i task last overdue =>
    obtain ⟨rfl, late⟩ := (State.checkLapsed_iff state).mp lapsed
    exact ⟨head, i, task, last, rfl, late⟩
  | off | ashore _ | waiting _ _ _ => simp [State.checkLapsed, state] at lapsed

theorem State.superviseGang_config : (s.superviseGang h).config = s.config := by rw [State.superviseGang_only]

theorem State.superviseGang_clock : (s.superviseGang h).clock = s.clock := by rw [State.superviseGang_only]

theorem State.superviseGang_gang_same (lapsed : s.checkLapsed g = true) :
    (s.superviseGang g).gang g = (s.gang g).nowOverdue := by
  obtain ⟨head, i, task, last, aboard, -⟩ := State.aboard_of_lapsed lapsed
  rw [State.superviseGang_lapsed aboard lapsed, State.send_gang, State.raise_gang, aboard]
  exact entry_put_same ..

theorem State.superviseGang_gang_other (other : g ≠ h) : (s.superviseGang h).gang g = s.gang g := by
  by_cases lapsed : s.checkLapsed h = true
  · obtain ⟨head, i, task, last, aboard, -⟩ := State.aboard_of_lapsed lapsed
    rw [State.superviseGang_lapsed aboard lapsed, State.send_gang, State.raise_gang]
    exact entry_put_other _ _ other
  · rw [State.superviseGang_running lapsed]

theorem State.superviseGang_checkLapsed (other : g ≠ h) : (s.superviseGang h).checkLapsed g = s.checkLapsed g := by
  simp only [State.checkLapsed, State.superviseGang_gang_other other, State.superviseGang_config,
    State.superviseGang_clock]

theorem State.superviseGang_lateNotice (other : g ≠ h) : (s.superviseGang h).lateNotice g = s.lateNotice g := by
  simp only [State.lateNotice, State.superviseGang_gang_other other, State.superviseGang_checkLapsed other]

theorem State.lateNotice_spared (running : s.checkLapsed g ≠ true) : s.lateNotice g = [] := by
  unfold State.lateNotice
  split
  · exact if_neg running
  · rfl
  · rfl
  · rfl

theorem State.superviseGang_gangPort (s : State) (g : GangId) :
    (s.superviseGang g).gangPort = s.gangPort.told (s.lateNotice g) := by
  by_cases lapsed : s.checkLapsed g = true
  · obtain ⟨head, i, task, last, aboard, -⟩ := State.aboard_of_lapsed lapsed
    rw [State.superviseGang_lapsed aboard lapsed, State.send_gangPort, State.raise_gangPort]
    simp only [State.lateNotice, aboard, lapsed, if_true]
    rfl
  · rw [State.superviseGang_running lapsed, State.lateNotice_spared lapsed, Port.told_nil]

theorem State.superviseGang_alert_other {a : Alert} (other : a ≠ .gangOverdue) :
    (s.superviseGang g).alert a = s.alert a := by
  by_cases lapsed : s.checkLapsed g = true
  · obtain ⟨head, i, task, last, aboard, -⟩ := State.aboard_of_lapsed lapsed
    rw [State.superviseGang_lapsed aboard lapsed, State.send_alert, State.raise_alert_other _ _ _ other]
    rfl
  · rw [State.superviseGang_running lapsed]

theorem State.raise_alert_set {a b : Alert} {x d : AlertDetail} (set : s.alert b = some x) :
    (s.raise a d).alert b = some x := by
  by_cases same : b = a
  · subst same
    rw [State.raise_of_set set, set]
  · rw [State.raise_alert_other _ _ _ same, set]

theorem State.superviseGang_alert_set {a : Alert} {x : AlertDetail} (set : s.alert a = some x) :
    (s.superviseGang g).alert a = some x := by
  by_cases lapsed : s.checkLapsed g = true
  · obtain ⟨head, i, task, last, aboard, -⟩ := State.aboard_of_lapsed lapsed
    rw [State.superviseGang_lapsed aboard lapsed, State.send_alert]
    exact State.raise_alert_set set
  · rw [State.superviseGang_running lapsed, set]

theorem State.superviseGang_alert_raised {head i : Nat} {task : Task} {last : Time} {overdue : Bool}
    (aboard : s.gang g = .aboard head i task last overdue) (lapsed : s.checkLapsed g = true)
    (clear : s.alert .gangOverdue = none) : (s.superviseGang g).alert .gangOverdue = some (.gang g i s.clock) := by
  rw [State.superviseGang_lapsed aboard lapsed, State.send_alert]
  exact State.raise_alert_same (s := s.setGang g _) clear _

end OneGang

/-! ### Several gangs in turn -/

theorem flatMap_congr_left {α β : Type} {l : List α} {f g : α → List β} (h : ∀ x ∈ l, f x = g x) :
    l.flatMap f = l.flatMap g := by
  rw [List.flatMap_def, List.flatMap_def, List.map_congr_left h]

section Gangs

variable {s : State} {l : List GangId} {g : GangId}

theorem State.superviseAll_gang (distinct : l.Nodup) : (l.foldl State.superviseGang s).gang g =
    if g ∈ l ∧ s.checkLapsed g = true then (s.gang g).nowOverdue else s.gang g := by
  induction l generalizing s with
  | nil => simp
  | cons h l ih =>
    obtain ⟨fresh, distinct⟩ := List.nodup_cons.mp distinct
    rw [List.foldl_cons, ih distinct]
    by_cases same : g = h
    · subst same
      rw [if_neg fun member => fresh member.1]
      by_cases lapsed : s.checkLapsed g = true
      · rw [State.superviseGang_gang_same lapsed, if_pos ⟨List.mem_cons_self, lapsed⟩]
      · rw [State.superviseGang_running lapsed, if_neg fun late => lapsed late.2]
    · rw [State.superviseGang_gang_other same, State.superviseGang_checkLapsed same]
      simp only [List.mem_cons, same, false_or]

theorem State.superviseAll_gangPort (distinct : l.Nodup) :
    (l.foldl State.superviseGang s).gangPort = s.gangPort.told (l.flatMap s.lateNotice) := by
  induction l generalizing s with
  | nil => exact (Port.told_nil _).symm
  | cons h l ih =>
    obtain ⟨fresh, distinct⟩ := List.nodup_cons.mp distinct
    have later : l.flatMap (s.superviseGang h).lateNotice = l.flatMap s.lateNotice :=
      flatMap_congr_left fun g member => State.superviseGang_lateNotice fun same => fresh (same ▸ member)
    rw [List.foldl_cons, ih distinct, later, State.superviseGang_gangPort, Port.told_told, List.flatMap_cons]

theorem State.superviseAll_running (running : ∀ g ∈ l, s.checkLapsed g ≠ true) : l.foldl State.superviseGang s = s := by
  induction l with
  | nil => rfl
  | cons h l ih =>
    rw [List.foldl_cons, State.superviseGang_running (running h List.mem_cons_self),
      ih fun g member => running g (List.mem_cons_of_mem h member)]

theorem State.superviseAll_alert_other {a : Alert} (other : a ≠ .gangOverdue) :
    (l.foldl State.superviseGang s).alert a = s.alert a := by
  induction l generalizing s with
  | nil => rfl
  | cons h l ih => rw [List.foldl_cons, ih, State.superviseGang_alert_other other]

theorem State.superviseAll_alert_set {a : Alert} {x : AlertDetail} (set : s.alert a = some x) :
    (l.foldl State.superviseGang s).alert a = some x := by
  induction l generalizing s with
  | nil => exact set
  | cons h l ih => exact ih (State.superviseGang_alert_set set)

/-- The first gang whose timer has run out is the one GANG_OVERDUE names. -/
theorem State.superviseAll_first {head i : Nat} {task : Task} {last : Time} {overdue : Bool}
    (ascending : l.Pairwise (· < ·)) (member : g ∈ l) (aboard : s.gang g = .aboard head i task last overdue)
    (lapsed : s.checkLapsed g = true) (first : ∀ h ∈ l, h < g → s.checkLapsed h ≠ true)
    (clear : s.alert .gangOverdue = none) :
    (l.foldl State.superviseGang s).alert .gangOverdue = some (.gang g i s.clock) := by
  obtain ⟨before, behind, rfl⟩ := List.append_of_mem member
  have below : ∀ h ∈ before, h < g := fun h there =>
    (List.pairwise_append.mp ascending).2.2 h there g List.mem_cons_self
  have running : before.foldl State.superviseGang s = s :=
    State.superviseAll_running fun h there => first h (List.mem_append_left _ there) (below h there)
  rw [List.foldl_append, running, List.foldl_cons]
  exact State.superviseAll_alert_set (State.superviseGang_alert_raised aboard lapsed clear)

end Gangs

/-! ### A changed check interval (R94) -/

section CheckInterval

variable {s : State} {old : ConfigSet} {g : GangId}

/-- The gangs whose timers a change of configuration restarts from their last check: all, or none. -/
def State.supervised (s : State) (old : ConfigSet) : List GangId :=
  if old.checkInterval = s.config.checkInterval then [] else all8

theorem State.applyCheckInterval_eq (s : State) (old : ConfigSet) :
    s.applyCheckInterval old = (s.supervised old).foldl State.superviseGang s := by
  unfold State.applyCheckInterval State.supervised
  split <;> rfl

theorem State.mem_supervised : g ∈ s.supervised old ↔ old.checkInterval ≠ s.config.checkInterval := by
  unfold State.supervised
  split
  · next same => simp [same]
  · next changed => simp [changed]

theorem State.supervised_ascending (s : State) (old : ConfigSet) : (s.supervised old).Pairwise (· < ·) := by
  unfold State.supervised
  split
  · exact .nil
  · exact all8_ascending.1

theorem State.supervised_nodup (s : State) (old : ConfigSet) : (s.supervised old).Nodup :=
  (s.supervised_ascending old).imp fun below => Fin.ne_of_lt below

/-- A gang the change makes overdue. -/
def State.MadeLate (s : State) (old : ConfigSet) (g : GangId) : Prop :=
  g ∈ s.supervised old ∧ s.checkLapsed g = true

theorem State.applyCheckInterval_late (late : s.MadeLate old g) :
    (s.applyCheckInterval old).gang g = (s.gang g).nowOverdue := by
  rw [State.applyCheckInterval_eq, State.superviseAll_gang (s.supervised_nodup old)]
  exact if_pos late

theorem State.applyCheckInterval_spared (spared : ¬ s.MadeLate old g) : (s.applyCheckInterval old).gang g = s.gang g := by
  rw [State.applyCheckInterval_eq, State.superviseAll_gang (s.supervised_nodup old)]
  exact if_neg spared

theorem State.madeLate_iff {head i : Nat} {task : Task} {last : Time} {overdue : Bool}
    (aboard : s.gang g = .aboard head i task last overdue) : s.MadeLate old g ↔ overdue = false ∧
      old.checkInterval ≠ s.config.checkInterval ∧ (s.config.checkInterval : Int) < (s.clock - last).toInt := by
  rw [State.MadeLate, State.mem_supervised, State.checkLapsed_iff aboard, and_left_comm]

/-- Every gang after the change: the overdue mark added where its time since its last check exceeds the new interval. -/
theorem State.applyCheckInterval_gang (s : State) (old : ConfigSet) (g : GangId) :
    (s.applyCheckInterval old).gang g = match s.gang g with
      | .aboard head i task last overdue => .aboard head i task last (overdue || decide
          (old.checkInterval ≠ s.config.checkInterval ∧ (s.config.checkInterval : Int) < (s.clock - last).toInt))
      | other => other := by
  by_cases late : s.MadeLate old g
  · obtain ⟨head, i, task, last, aboard, -⟩ := State.aboard_of_lapsed late.2
    rw [State.applyCheckInterval_late late, aboard]
    have exceeded := ((State.madeLate_iff aboard).mp late).2
    simp only [Gang.nowOverdue, Bool.false_or, decide_eq_true exceeded]
  · rw [State.applyCheckInterval_spared late]
    cases state : s.gang g with
    | aboard head i task last overdue =>
      rw [State.madeLate_iff state, not_and] at late
      cases overdue with
      | true => simp only [Bool.true_or]
      | false => simp only [Bool.false_or, decide_eq_false (late rfl)]
    | off | ashore _ | waiting _ _ _ => rfl

/-- The gangs made overdue are those whose mark the change sets. -/
theorem State.madeLate_iff_marked : s.MadeLate old g ↔ ∃ head i task last, s.gang g = .aboard head i task last false ∧
    (s.applyCheckInterval old).gang g = .aboard head i task last true := by
  constructor
  · intro late
    obtain ⟨head, i, task, last, aboard, -⟩ := State.aboard_of_lapsed late.2
    exact ⟨head, i, task, last, aboard, by rw [State.applyCheckInterval_late late, aboard, Gang.nowOverdue]⟩
  · rintro ⟨head, i, task, last, aboard, marked⟩
    refine Classical.byContradiction fun spared => ?_
    rw [State.applyCheckInterval_spared spared, aboard] at marked
    cases marked

theorem State.applyCheckInterval_quiet (quiet : ∀ g, ¬ s.MadeLate old g) : s.applyCheckInterval old = s := by
  rw [State.applyCheckInterval_eq]
  exact State.superviseAll_running fun g member lapsed => quiet g ⟨member, lapsed⟩

theorem State.applyCheckInterval_alert_other {a : Alert} (other : a ≠ .gangOverdue) :
    (s.applyCheckInterval old).alert a = s.alert a := by
  rw [State.applyCheckInterval_eq, State.superviseAll_alert_other other]

theorem State.applyCheckInterval_alert_set {a : Alert} {x : AlertDetail} (set : s.alert a = some x) :
    (s.applyCheckInterval old).alert a = some x := by
  rw [State.applyCheckInterval_eq, State.superviseAll_alert_set set]

theorem State.applyCheckInterval_alert_first {head i : Nat} {task : Task} {last : Time} {overdue : Bool}
    (aboard : s.gang g = .aboard head i task last overdue) (late : s.MadeLate old g)
    (first : ∀ h, h < g → ¬ s.MadeLate old h) (clear : s.alert .gangOverdue = none) :
    (s.applyCheckInterval old).alert .gangOverdue = some (.gang g i s.clock) := by
  rw [State.applyCheckInterval_eq]
  exact State.superviseAll_first (s.supervised_ascending old) late.1 aboard late.2
    (fun h member below lapsed => first h below ⟨member, lapsed⟩) clear

/-- The notices of the gangs made overdue, lowest id first (R93, R94). -/
theorem State.applyCheckInterval_gangPort (s : State) (old : ConfigSet) :
    (s.applyCheckInterval old).gangPort = s.gangPort.told ((s.supervised old).flatMap s.lateNotice) := by
  rw [State.applyCheckInterval_eq, State.superviseAll_gangPort (s.supervised_nodup old)]

/-- The notice of one gang, by the gang before and after the change. -/
def markNotice (g : GangId) (before after : Gang) : List Telegram :=
  match before, after with
  | .aboard head i task last false, .aboard _ _ _ _ true => [.overdue g i task head last]
  | _, _ => []

theorem State.markNotice_late (late : s.MadeLate old g) :
    markNotice g (s.gang g) ((s.applyCheckInterval old).gang g) = s.lateNotice g := by
  obtain ⟨head, i, task, last, aboard, -⟩ := State.aboard_of_lapsed late.2
  rw [State.applyCheckInterval_late late, State.lateNotice, aboard]
  simp only [late.2, if_true]
  rfl

theorem State.markNotice_spared (spared : ¬ s.MadeLate old g) :
    markNotice g (s.gang g) ((s.applyCheckInterval old).gang g) = [] := by
  rw [State.applyCheckInterval_spared spared]
  cases s.gang g with
  | aboard head i task last overdue => cases overdue <;> rfl
  | off | ashore _ | waiting _ _ _ => rfl

/-- The notices of a changed check interval, read off the gangs before and after it. -/
theorem State.applyCheckInterval_notices (s : State) (old : ConfigSet) : (s.supervised old).flatMap s.lateNotice =
    all8.flatMap fun g => markNotice g (s.gang g) ((s.applyCheckInterval old).gang g) := by
  by_cases same : old.checkInterval = s.config.checkInterval
  · have none_ : s.supervised old = [] := if_pos same
    rw [none_, List.flatMap_nil, eq_comm, List.flatMap_eq_nil_iff]
    intro g _
    exact State.markNotice_spared fun late => absurd late.1 (by rw [none_]; exact List.not_mem_nil)
  · have all : s.supervised old = all8 := if_neg same
    rw [all]
    refine flatMap_congr_left fun g _ => ?_
    by_cases late : s.MadeLate old g
    · exact (State.markNotice_late late).symm
    · rw [State.markNotice_spared late, State.lateNotice_spared fun lapsed => late ⟨by rw [all]; exact mem_all8 g, lapsed⟩]

end CheckInterval

end Sys2Proof.Machine

/-! PROOFS. An accepted CONFIG: what it stores, what it resets, and the alerts it brings (R171, R172). -/

namespace Sys2Proof.Machine

/-! ### Alerts raised for several numbers (R164) -/

section Raised

variable {s : State} {a b : Alert} {x : AlertDetail}

theorem State.raiseFor_alert_set {ns : List Nat} {k : Nat → AlertDetail} (set : s.alert b = some x) :
    (s.raiseFor a ns k).alert b = some x := by
  obtain ⟨-, same⟩ | ⟨n, -, raised⟩ := s.raiseFor_cases a ns k
  · rw [same, set]
  · rw [raised, State.raise_alert_set set]

/-- A clear flag raised for the things of a list: none, or with the detail of one of them (R164, log 11). -/
theorem State.raiseFor_clear {ι : Type} {ks : List ι} {P : ι → Prop} (number : ι → Nat) (detail : Nat → AlertDetail)
    (mem : ∀ i, i ∈ ks ↔ P i) (clear : s.alert a = none) :
    ((∀ i, ¬ P i) → (s.raiseFor a (ks.map number) detail).alert a = none) ∧
      ∀ i, P i → ∃ j, P j ∧ (s.raiseFor a (ks.map number) detail).alert a = some (detail (number j)) := by
  constructor
  · intro none_
    have empty : ks = [] := List.eq_nil_iff_forall_not_mem.mpr fun i member => none_ i ((mem i).mp member)
    rw [empty, List.map_nil, State.raiseFor_nil, clear]
  · intro i hi
    have nonempty : ks.map number ≠ [] := List.ne_nil_of_mem (List.mem_map_of_mem ((mem i).mpr hi))
    obtain ⟨n, member, raised⟩ := State.raiseFor_of_some (s := s) (a := a) nonempty detail
    obtain ⟨j, there, rfl⟩ := List.mem_map.mp member
    exact ⟨j, (mem j).mp there, by rw [raised, State.raise_alert_same clear]⟩

theorem State.reevaluate_alert_set {cs : List Slot} (set : s.alert a = some x) : (s.reevaluate cs).alert a = some x := by
  rw [State.reevaluate_eq]
  exact State.raiseFor_alert_set (s := s.respanned cs) set

theorem State.reevaluate_alert_other {cs : List Slot} (other : a ≠ .windowEmpty) :
    (s.reevaluate cs).alert a = s.alert a := by
  rw [State.reevaluate_eq, State.raiseFor_alert_other _ _ _ _ other]
  rfl

/-! ### Trips that begin together (R56) -/

/-- The line a number names, for numbers below seven. -/
theorem lineNumber_val (k : LineNo) : (⟨k.val % 7, by omega⟩ : LineNo) = k := Fin.ext (Nat.mod_eq_of_lt k.isLt)

theorem State.raiseTrips_alert_set {ks : List LineNo} (set : s.alert a = some x) :
    (s.raiseTrips ks).alert a = some x := State.raiseFor_alert_set (State.raiseFor_alert_set set)

theorem State.raiseTrips_alert_other {ks : List LineNo} (trip : a ≠ .sensorTrip) (disagree : a ≠ .sensorDisagree) :
    (s.raiseTrips ks).alert a = s.alert a := by
  rw [State.raiseTrips, State.raiseFor_alert_other _ _ _ _ disagree, State.raiseFor_alert_other _ _ _ _ trip]

theorem State.raiseTrips_sensorTrip {ks : List LineNo} {P : LineNo → Prop} (mem : ∀ k, k ∈ ks ↔ P k)
    (clear : s.alert .sensorTrip = none) : ((∀ k, ¬ P k) → (s.raiseTrips ks).alert .sensorTrip = none) ∧
      ∀ k, P k → ∃ j, P j ∧ (s.raiseTrips ks).alert .sensorTrip = some (.line j s.clock) := by
  have raised := State.raiseFor_clear (s := s) (fun k : LineNo => k.val)
    (fun n => .line ⟨n % 7, by omega⟩ s.clock) mem clear
  simp only [lineNumber_val] at raised
  rw [State.raiseTrips, State.raiseFor_alert_other _ _ _ _ (by decide : Alert.sensorTrip ≠ .sensorDisagree)]
  exact raised

theorem State.raiseTrips_sensorDisagree {ks : List LineNo} {P : LineNo → Prop} (mem : ∀ k, k ∈ ks ↔ P k)
    (clear : s.alert .sensorDisagree = none) :
    let gap : LineNo → Int := fun k => s.gap (lineWest k) (lineEast k)
    let wide : LineNo → Prop := fun k => P k ∧ (s.config.nearDistance : Int) ≤ gap k
    ((∀ k, ¬ wide k) → (s.raiseTrips ks).alert .sensorDisagree = none) ∧
      ∀ k, wide k → ∃ j, wide j ∧ (s.raiseTrips ks).alert .sensorDisagree = some (.gap j (gap j) s.clock) := by
  intro gap wide
  have memWide : ∀ k, k ∈ ks.filter (fun k => decide ((s.config.nearDistance : Int) ≤ gap k)) ↔ wide k := fun k => by
    rw [List.mem_filter, mem, decide_eq_true_iff]
  have raised := State.raiseFor_clear (s := s.raiseFor .sensorTrip (ks.map fun k => k.val)
    fun n => .line ⟨n % 7, by omega⟩ s.clock) (a := .sensorDisagree) (fun k : LineNo => k.val)
    (fun n => .gap ⟨n % 7, by omega⟩ (gap ⟨n % 7, by omega⟩) s.clock) memWide
    (by rw [State.raiseFor_alert_other _ _ _ _ (by decide : Alert.sensorDisagree ≠ .sensorTrip), clear])
  simp only [lineNumber_val] at raised
  exact raised

end Raised

/-! ### The state before the check-in timers -/

section Config

variable {s : State} {items : List ConfigItem} {a : Alert} {x : AlertDetail}

/-- An accepted CONFIG up to the alerts of its trips and its halt. -/
def State.configAlerted (s : State) (items : List ConfigItem) : State :=
  let tripped := (s.configEvaluated items).raiseTrips (State.tripsBegun s (s.configEvaluated items))
  if (s.refit (storeItems s.config items)).haltBegins then tripped.raise .quayHalt (.halt s.clock) else tripped

theorem State.applyConfig_alerted (s : State) (items : List ConfigItem) :
    s.applyConfig items = ((s.configAlerted items).applyCheckInterval s.config).driveAttn := s.applyConfig_eq items

theorem State.configAlerted_only (s : State) (items : List ConfigItem) : s.configAlerted items =
    { s.reconfigured items with
      span := (s.configEvaluated items).span, watches := (s.configEvaluated items).watches,
      alerts := (s.configAlerted items).alerts, attn := (s.configAlerted items).attn } := by
  unfold State.configAlerted
  dsimp only
  split
  · rw [State.raise_only, State.raiseTrips_only, State.configEvaluated_only]
  · rw [State.raiseTrips_only, State.configEvaluated_only]

theorem State.configAlerted_config : (s.configAlerted items).config = storeItems s.config items := by
  rw [State.configAlerted_only]; rfl

theorem State.configAlerted_clock : (s.configAlerted items).clock = s.clock := by
  rw [State.configAlerted_only]; rfl

theorem State.configAlerted_gang (g : GangId) : (s.configAlerted items).gang g = s.gang g := by
  rw [State.configAlerted_only]; rfl

theorem State.configAlerted_gangPort : (s.configAlerted items).gangPort = s.gangPort := by
  rw [State.configAlerted_only]; rfl

theorem State.configEvaluated_clock : (s.configEvaluated items).clock = s.clock := by
  rw [State.configEvaluated_only]; rfl

theorem State.configEvaluated_config : (s.configEvaluated items).config = storeItems s.config items := by
  rw [State.configEvaluated_only]; rfl

/-! ### Flags that are set, and flags no CONFIG touches -/

theorem State.configEvaluated_alert_set (set : s.alert a = some x) : (s.configEvaluated items).alert a = some x := by
  unfold State.configEvaluated
  split
  · exact State.reevaluate_alert_set set
  · exact set

theorem State.configEvaluated_alert_other (other : a ≠ .windowEmpty) :
    (s.configEvaluated items).alert a = s.alert a := by
  unfold State.configEvaluated
  split
  · exact State.reevaluate_alert_other other
  · rfl

theorem State.configAlerted_alert_set (set : s.alert a = some x) : (s.configAlerted items).alert a = some x := by
  have tripped := State.raiseTrips_alert_set (ks := State.tripsBegun s (s.configEvaluated items))
    (State.configEvaluated_alert_set (items := items) set)
  unfold State.configAlerted
  dsimp only
  split
  · exact State.raise_alert_set tripped
  · exact tripped

/-- The halt's alert aside, the flags are those the trips leave. -/
theorem State.configAlerted_alert_other (other : a ≠ .quayHalt) : (s.configAlerted items).alert a =
    ((s.configEvaluated items).raiseTrips (State.tripsBegun s (s.configEvaluated items))).alert a := by
  unfold State.configAlerted
  dsimp only
  split
  · exact State.raise_alert_other _ _ _ other
  · rfl

theorem State.applyConfig_alert_set (set : s.alert a = some x) : (s.applyConfig items).alert a = some x := by
  rw [State.applyConfig_alerted]
  exact State.applyCheckInterval_alert_set (State.configAlerted_alert_set set)

/-- The alert of an overdue gang aside, the flags are those before the check-in timers. -/
theorem State.applyConfig_alert_other (other : a ≠ .gangOverdue) :
    (s.applyConfig items).alert a = (s.configAlerted items).alert a := by
  rw [State.applyConfig_alerted]
  exact State.applyCheckInterval_alert_other other

theorem State.applyConfig_alert_untouched (halt : a ≠ .quayHalt) (trip : a ≠ .sensorTrip)
    (disagree : a ≠ .sensorDisagree) (empty : a ≠ .windowEmpty) (late : a ≠ .gangOverdue) :
    (s.applyConfig items).alert a = s.alert a := by
  rw [State.applyConfig_alert_other late, State.configAlerted_alert_other halt, State.raiseTrips_alert_other trip disagree,
    State.configEvaluated_alert_other empty]

/-! ### Flags that a CONFIG sets -/

theorem State.applyConfig_halted : (s.applyConfig items).halted =
    decide (s.haltLine = (storeItems s.config items).haltPolarity) := by
  rw [State.applyConfig_after, State.configEvaluated_only]; rfl

/-- QUAY_HALT where the halt begins (R58, R59). -/
theorem State.applyConfig_quayHalt (clear : s.alert .quayHalt = none) : (s.applyConfig items).alert .quayHalt =
    if s.halted = false ∧ (s.applyConfig items).halted = true then some (.halt s.clock) else none := by
  have begins : (s.refit (storeItems s.config items)).haltBegins = true ↔
      s.halted = false ∧ (s.applyConfig items).halted = true := by
    rw [State.applyConfig_halted, State.haltBegins, Bool.and_eq_true, Bool.not_eq_true', and_comm, beq_iff_eq,
      decide_eq_true_iff]
    rfl
  have tripped : ((s.configEvaluated items).raiseTrips (State.tripsBegun s (s.configEvaluated items))).alert .quayHalt =
      none := by
    rw [State.raiseTrips_alert_other (by decide) (by decide), State.configEvaluated_alert_other (by decide), clear]
  rw [State.applyConfig_alert_other (by decide), State.configAlerted]
  by_cases halts : (s.refit (storeItems s.config items)).haltBegins = true
  · rw [if_pos halts, if_pos (begins.mp halts), State.raise_alert_same tripped]
  · rw [if_neg halts, if_neg (mt begins.mpr halts), tripped]

/-- A line whose trip begins at a CONFIG (R55, R57). -/
def State.TripBegun (s t : State) (k : LineNo) : Prop := t.tripped k = true ∧
  (s.tripped k = false ∨ entry s.config.sensorModes k ≠ entry t.config.sensorModes k)

theorem State.mem_tripsBegun (s t : State) (k : LineNo) : k ∈ State.tripsBegun s t ↔ State.TripBegun s t k := by
  simp [State.tripsBegun, State.TripBegun]

theorem State.applyConfig_tripped (k : LineNo) : (s.applyConfig items).tripped k = (s.configEvaluated items).tripped k := by
  rw [State.applyConfig_after]; rfl

theorem State.applyConfig_gap (w e : Slot) : (s.applyConfig items).gap w e = (s.configEvaluated items).gap w e := by
  rw [State.applyConfig_after]; rfl

theorem State.applyConfig_tripBegun (k : LineNo) :
    State.TripBegun s (s.configEvaluated items) k ↔ State.TripBegun s (s.applyConfig items) k := by
  rw [State.TripBegun, State.TripBegun, State.applyConfig_tripped, State.applyConfig_config, State.configEvaluated_config]

/-- SENSOR_TRIP for the trips that begin, with the detail of one of them (R56, log 11). -/
theorem State.applyConfig_sensorTrip (clear : s.alert .sensorTrip = none) :
    let begun := State.TripBegun s (s.applyConfig items)
    ((∀ k, ¬ begun k) → (s.applyConfig items).alert .sensorTrip = none) ∧
      ∀ k, begun k → ∃ j, begun j ∧ (s.applyConfig items).alert .sensorTrip = some (.line j s.clock) := by
  intro begun
  have raised := State.raiseTrips_sensorTrip (s := s.configEvaluated items) (P := begun)
    (fun k => (State.mem_tripsBegun s _ k).trans (State.applyConfig_tripBegun k))
    (by rw [State.configEvaluated_alert_other (by decide), clear])
  rw [State.configEvaluated_clock] at raised
  rw [State.applyConfig_alert_other (by decide), State.configAlerted_alert_other (by decide)]
  exact raised

/-- SENSOR_DISAGREE for those of them whose pair is at least the near distance apart (R56, log 11). -/
theorem State.applyConfig_sensorDisagree (clear : s.alert .sensorDisagree = none) :
    let gap : LineNo → Int := fun k => (s.applyConfig items).gap (lineWest k) (lineEast k)
    let wide : LineNo → Prop := fun k => State.TripBegun s (s.applyConfig items) k ∧
      ((storeItems s.config items).nearDistance : Int) ≤ gap k
    ((∀ k, ¬ wide k) → (s.applyConfig items).alert .sensorDisagree = none) ∧
      ∀ k, wide k → ∃ j, wide j ∧
        (s.applyConfig items).alert .sensorDisagree = some (.gap j (gap j) s.clock) := by
  have raised := State.raiseTrips_sensorDisagree (s := s.configEvaluated items)
    (P := State.TripBegun s (s.applyConfig items))
    (fun k => (State.mem_tripsBegun s _ k).trans (State.applyConfig_tripBegun k))
    (by rw [State.configEvaluated_alert_other (by decide), clear])
  rw [State.configEvaluated_clock, State.configEvaluated_config] at raised
  simp only [← State.applyConfig_gap] at raised
  rw [State.applyConfig_alert_other (by decide), State.configAlerted_alert_other (by decide)]
  exact raised

/-! ### Empty marks newly set (R42) -/

theorem State.reconfigured_spanOf (c : Slot) : (s.reconfigured items).spanOf c =
    if unfits s.config (storeItems s.config items) c then SpanRecord.reset else s.spanOf c := entry_table8 ..

theorem State.applyConfig_spanOf (c : Slot) : (s.applyConfig items).spanOf c = (s.configEvaluated items).spanOf c := by
  rw [State.applyConfig_after]; rfl

/-- Of the slots made unfitted none is marked by the re-evaluation. -/
theorem State.reevaluated_unfitted {c : Slot} (out : unfits s.config (storeItems s.config items) c = true) :
    ((s.reconfigured items).reevaluate (s.reconfigured items).fittedSlots).spanOf c = SpanRecord.reset := by
  have unfitted : (s.reconfigured items).fitted c = false := by
    obtain ⟨-, new⟩ := Bool.and_eq_true_iff.mp out
    exact Bool.not_eq_true' _ ▸ new
  rw [State.reevaluate_spanOf, if_neg (by simp [unfitted]), State.reconfigured_spanOf, if_pos out]

/-- WINDOW_EMPTY for the marks a CONFIG newly sets, with the detail of one of them (R42, log 11). -/
theorem State.applyConfig_windowEmpty (clear : s.alert .windowEmpty = none) :
    let newly : Slot → Prop := fun c =>
      ((s.applyConfig items).spanOf c).emptyMark = true ∧ (s.spanOf c).emptyMark = false
    ((∀ c, ¬ newly c) → (s.applyConfig items).alert .windowEmpty = none) ∧
      ∀ c, newly c → ∃ d, newly d ∧ (s.applyConfig items).alert .windowEmpty = some (.crane d s.clock) := by
  intro newly
  have alert : (s.applyConfig items).alert .windowEmpty = (s.configEvaluated items).alert .windowEmpty := by
    rw [State.applyConfig_alert_other (by decide), State.configAlerted_alert_other (by decide),
      State.raiseTrips_alert_other (by decide) (by decide)]
  rw [alert]
  by_cases evaluates : (spanItemsDiffer s.config (storeItems s.config items) ||
      (s.reconfigured items).halted != s.halted) = true
  · have evaluated : s.configEvaluated items =
        (s.reconfigured items).reevaluate (s.reconfigured items).fittedSlots := if_pos evaluates
    have mem : ∀ c, c ∈ (s.reconfigured items).newlyEmpty (s.reconfigured items).fittedSlots ↔ newly c := fun c => by
      rw [State.mem_newlyEmpty, State.reconfigured_spanOf]
      show _ ↔ ((s.applyConfig items).spanOf c).emptyMark = true ∧ (s.spanOf c).emptyMark = false
      rw [State.applyConfig_spanOf, evaluated]
      by_cases out : unfits s.config (storeItems s.config items) c = true
      · rw [State.reevaluated_unfitted out]
        simp [SpanRecord.reset]
      · rw [if_neg out]
    have raised := State.raiseFor_clear (s := (s.reconfigured items).respanned (s.reconfigured items).fittedSlots)
      (fun c : Slot => c.val) (fun n => .crane (slotOfNat n) s.clock) mem clear
    simp only [slotOfNat_val] at raised
    rw [evaluated, State.reevaluate_eq]
    exact raised
  · have kept : s.configEvaluated items = s.reconfigured items := if_neg evaluates
    have none_ : ∀ c, ¬ newly c := fun c new => by
      obtain ⟨set, unset⟩ : ((s.applyConfig items).spanOf c).emptyMark = true ∧ (s.spanOf c).emptyMark = false := new
      rw [State.applyConfig_spanOf, kept, State.reconfigured_spanOf] at set
      split at set
      · cases set
      · rw [unset] at set
        cases set
    exact ⟨fun _ => by rw [kept]; exact clear, fun c new => absurd new (none_ c)⟩

end Config

end Sys2Proof.Machine

/-! PROOFS. An accepted CONFIG: the gangs it makes overdue, the records and latches it resets, and the command itself (R94, R171,
R172). -/

namespace Sys2Proof.Machine

section Config

variable {s : State} {items : List ConfigItem}

/-! ### Gangs made overdue (R93, R94) -/

theorem State.applyConfig_gang (g : GangId) : (s.applyConfig items).gang g = match s.gang g with
    | .aboard head i task last overdue => .aboard head i task last (overdue || decide
        (s.config.checkInterval ≠ (storeItems s.config items).checkInterval ∧
          ((storeItems s.config items).checkInterval : Int) < (s.clock - last).toInt))
    | other => other := by
  have gang := State.applyCheckInterval_gang (s.configAlerted items) s.config g
  rw [State.configAlerted_gang, State.configAlerted_config, State.configAlerted_clock] at gang
  rw [State.applyConfig_alerted]
  exact gang

/-- A gang that a CONFIG makes overdue. -/
def State.ConfigLate (s : State) (items : List ConfigItem) (g : GangId) : Prop := ∃ head i task last,
  s.gang g = .aboard head i task last false ∧ (s.applyConfig items).gang g = .aboard head i task last true

theorem State.configLate_iff (g : GangId) :
    s.ConfigLate items g ↔ (s.configAlerted items).MadeLate s.config g := by
  rw [State.madeLate_iff_marked, State.ConfigLate, State.applyConfig_alerted]
  simp only [State.configAlerted_gang]
  rfl

/-- GANG_OVERDUE for the lowest gang made overdue (R93, R164). -/
theorem State.applyConfig_gangOverdue (clear : s.alert .gangOverdue = none) :
    ((∀ g, ¬ s.ConfigLate items g) → (s.applyConfig items).alert .gangOverdue = none) ∧
      ∀ g head i task last, s.gang g = .aboard head i task last false → s.ConfigLate items g →
        (∀ h, h < g → ¬ s.ConfigLate items h) →
        (s.applyConfig items).alert .gangOverdue = some (.gang g i s.clock) := by
  have before : (s.configAlerted items).alert .gangOverdue = none := by
    rw [State.configAlerted_alert_other (by decide), State.raiseTrips_alert_other (by decide) (by decide),
      State.configEvaluated_alert_other (by decide), clear]
  rw [State.applyConfig_alerted]
  simp only [State.configLate_iff]
  constructor
  · intro quiet
    rw [State.applyCheckInterval_quiet quiet]
    exact before
  · intro g head i task last aboard late first
    have raised := State.applyCheckInterval_alert_first (State.configAlerted_gang (items := items) g ▸ aboard) late first before
    rw [State.configAlerted_clock] at raised
    exact raised

theorem State.applyConfig_gangPort : (s.applyConfig items).gangPort =
    s.gangPort.told (all8.flatMap fun g => markNotice g (s.gang g) ((s.applyConfig items).gang g)) := by
  have told := State.applyCheckInterval_gangPort (s.configAlerted items) s.config
  rw [State.applyCheckInterval_notices, State.configAlerted_gangPort] at told
  simp only [State.configAlerted_gang] at told
  rw [State.applyConfig_alerted]
  exact told

/-! ### Records and latches reset (R6, R57) -/

theorem unfits_iff {old new : ConfigSet} {c : Slot} :
    unfits old new c = true ↔ old.isFitted c = true ∧ new.isFitted c = false := by
  simp [unfits]

theorem lineEnds_iff {old new : ConfigSet} {k : LineNo} : lineEnds old new k = true ↔
    entry old.sensorModes k ≠ entry new.sensorModes k ∨
      (old.isFitted (lineWest k) = true ∧ new.isFitted (lineWest k) = false) ∨
      (old.isFitted (lineEast k) = true ∧ new.isFitted (lineEast k) = false) := by
  simp [lineEnds, unfits_iff, or_assoc]

theorem State.applyConfig_crane_eq (c : Slot) : (s.applyConfig items).crane c =
    if s.fitted c = true ∧ (storeItems s.config items).isFitted c = false then CraneRecord.reset else s.crane c := by
  simp only [State.applyConfig_crane, unfits_iff]
  rfl

theorem State.applyConfig_latch (k : LineNo) : entry (s.applyConfig items).latches k =
    if entry s.config.sensorModes k ≠ entry (storeItems s.config items).sensorModes k ∨
      (s.fitted (lineWest k) = true ∧ (storeItems s.config items).isFitted (lineWest k) = false) ∨
      (s.fitted (lineEast k) = true ∧ (storeItems s.config items).isFitted (lineEast k) = false)
    then false else entry s.latches k := by
  have latch : entry (s.applyConfig items).latches k =
      if lineEnds s.config (storeItems s.config items) k then false else entry s.latches k := by
    rw [State.applyConfig_after, State.configEvaluated_only]
    exact entry_table7 ..
  simp only [latch, lineEnds_iff]
  rfl

theorem State.applyConfig_attn : (s.applyConfig items).attn =
    attnLevel (s.applyConfig items).alerts (storeItems s.config items).alertMask := by
  have config := State.applyConfig_config s items
  rw [State.applyConfig_alerted] at config ⊢
  rw [← config]
  rfl

/-! ### A CONFIG in OPERATING (Table 10.3) -/

theorem configStore_haltPolarity {i : ConfigItem} (h : configSetupOnly i = false) (cfg : ConfigSet) :
    (configStore cfg i).haltPolarity = cfg.haltPolarity := by
  cases i with
  | grace | maxRecalls | checkInterval | takeMode | lookahead | alertMask | unknown => rfl
  | _ => simp [configSetupOnly] at h

theorem storeItems_haltPolarity {items : List ConfigItem} (h : ∀ i ∈ items, configSetupOnly i = false) (cfg : ConfigSet) :
    (storeItems cfg items).haltPolarity = cfg.haltPolarity := by
  induction items generalizing cfg with
  | nil => rfl
  | cons i rest ih =>
    exact (ih (fun j hj => h j (by simp [hj])) _).trans (configStore_haltPolarity (h i (by simp)) cfg)

section Operating

variable (plain : ∀ i ∈ items, configSetupOnly i = false)

include plain

theorem unfits_operating (c : Slot) : unfits s.config (storeItems s.config items) c = false := by
  rw [unfits, ConfigSet.isFitted, ConfigSet.isFitted, (storeItems_spanItems plain s.config).fitted]
  simp

theorem lineEnds_operating (k : LineNo) : lineEnds s.config (storeItems s.config items) k = false := by
  rw [lineEnds, unfits_operating plain, unfits_operating plain, (storeItems_spanItems plain s.config).modes]
  simp

theorem spanItemsDiffer_operating : spanItemsDiffer s.config (storeItems s.config items) = false := by
  obtain ⟨fitted, park, ⟨west, east⟩, clearance, margin, ⟨near, hysteresis⟩, creep, modes⟩ :=
    storeItems_spanItems plain s.config
  simp [spanItemsDiffer, fitted, park, west, east, clearance, margin, near, hysteresis, creep, modes,
    storeItems_haltPolarity plain]

/-- In OPERATING no crane record and no latch is reset. -/
theorem State.applyConfig_operating : (s.applyConfig items).cranes = s.cranes ∧ (s.applyConfig items).latches = s.latches := by
  constructor
  · refine table_ext fun c => ?_
    have crane := State.applyConfig_crane s items c
    rwa [unfits_operating plain] at crane
  · rw [State.applyConfig_after, State.configEvaluated_only]
    refine table_ext fun k => (entry_table7 ..).trans ?_
    rw [lineEnds_operating plain]
    rfl

/-- In OPERATING no crane is re-evaluated while the halt follows its line. -/
theorem State.applyConfig_spanKept (halt : s.halted = decide (s.haltLine = s.config.haltPolarity)) :
    (s.applyConfig items).span = s.span ∧ (s.applyConfig items).watches = s.watches := by
  have halted : (s.reconfigured items).halted = s.halted := by
    rw [halt, State.reconfigured, storeItems_haltPolarity plain]
    rfl
  have kept : s.configEvaluated items = s.reconfigured items := by
    rw [State.configEvaluated, spanItemsDiffer_operating plain, halted]
    simp
  rw [State.applyConfig_after, kept]
  constructor
  · refine table_ext fun c => (State.reconfigured_spanOf c).trans ?_
    rw [unfits_operating plain]
    rfl
  · refine table_ext fun w => (entry_table8 ..).trans ?_
    rw [ConfigSet.pairEast_congr (storeItems_spanItems plain s.config).fitted]
    simp [State.watch]

end Operating

/-! ### The command (R171) -/

theorem configRefusal_accepts {mode : PartMode} (some_ : 1 ≤ items.length) (most : items.length ≤ 32)
    (good : ∀ i ∈ items, configNamed i = true ∧ configInRange i = true ∧ (mode = .operating → configSetupOnly i = false)) :
    configRefusal mode items = none := by
  have settable : items.find? (fun i => mode == .operating && configSetupOnly i) = none :=
    List.find?_eq_none.mpr fun i member => by
      obtain ⟨-, -, plain⟩ := good i member
      cases mode with
      | setup => exact Bool.false_ne_true
      | operating => simp [plain rfl]
  have inRange : items.find? (fun i => !configInRange i) = none :=
    List.find?_eq_none.mpr fun i member => by
      obtain ⟨-, range, -⟩ := good i member
      simp [range]
  rw [configRefusal, if_neg (by omega), find?_configNamed fun i member => (good i member).1, settable, inRange]

theorem exec_config_accepted (good : configRefusal s.mode items = none) : exec (.config (.fields items)) s =
    .next (((s.heard .plan).applyConfig items).send .plan
      (.planAck (.config (items.map (configStored (storeItems s.config items)))))) := by
  have accepted : configEvent items (s.heard .plan) =
      planAck (.config (items.map (configStored (storeItems s.config items)))) ((s.heard .plan).applyConfig items) := by
    rw [configEvent, State.heard_mode, good, State.heard_config]
  refine State.planRequest_acked (t := .config) accepted ?_
  rw [State.applyConfig_only]
  rfl

end Config

/-- Settles O52: the accepted list is stored in one event, and each clause is what that event leaves of one part. -/
theorem configIsStored : Obligations.ConfigIsStored := by
  intro s items some_ most good new
  refine ⟨(s.heard .plan).applyConfig items, exec_config_accepted (configRefusal_accepts some_ most good),
    State.applyConfig_only _ items, State.applyConfig_config _ items, State.applyConfig_crane_eq (s := s.heard .plan),
    State.applyConfig_latch (s := s.heard .plan), State.applyConfig_halted (s := s.heard .plan),
    fun a x => State.applyConfig_alert_set (s := s.heard .plan),
    fun a halt trip disagree empty late =>
      State.applyConfig_alert_untouched (s := s.heard .plan) halt trip disagree empty late,
    State.applyConfig_quayHalt (s := s.heard .plan), ⟨fun clear => ?trip, fun clear => ?disagree,
      State.applyConfig_windowEmpty (s := s.heard .plan), State.applyConfig_gangOverdue (s := s.heard .plan)⟩,
    State.applyConfig_gangPort (s := s.heard .plan), State.applyConfig_attn (s := s.heard .plan),
    State.applyConfig_gang (s := s.heard .plan), fun settled => ?settled, fun operating => ?operating⟩
  case trip =>
    have raised := State.applyConfig_sensorTrip (s := s.heard .plan) (items := items) clear
    simp only [State.TripBegun, State.applyConfig_config] at raised
    exact raised
  case disagree =>
    have raised := State.applyConfig_sensorDisagree (s := s.heard .plan) (items := items) clear
    simp only [State.TripBegun, State.applyConfig_config] at raised
    exact raised
  case settled =>
    have heard : SpanSettled (s.heard .plan) :=
      settled.of_sameInputs (by constructor <;> simp) rfl rfl
    exact heard.applyConfig items
  case operating =>
    have plain : ∀ i ∈ items, configSetupOnly i = false := fun i member => by
      obtain ⟨-, -, settable⟩ := good i member
      exact settable operating
    obtain ⟨cranes, latches⟩ := State.applyConfig_operating (s := s.heard .plan) plain
    exact ⟨cranes, latches, fun halt _ => State.applyConfig_spanKept (s := s.heard .plan) plain halt⟩

end Sys2Proof.Machine
